-- ==== Sys2Proof/Word.lean ====
section
/-! DEFINITION. The units of the two byte streams: a byte is 8 bits wide (`BYTE_WIDTH`, 00_scope.md R6, R8),
a byte sequence is a finite list whose index 0 is transmitted first (R8, R53), and a text is a list of
characters (rendering R107, R173; request syntax R87). -/

namespace Sys2Proof

/-- One unsigned byte 0..255 (R6 `BYTE_WIDTH`, R8). -/
abbrev Byte := BitVec 8

/-- A byte sequence, first-transmitted byte first (R8, R53). -/
abbrev Bytes := List Byte

/-- A text, for display and for the request syntax only (R87, R107, R173). -/
abbrev Text := List Char

end Sys2Proof
end

