-- ==== Sys2Proof/Syntax.lean ====
section
/-! DEFINITION. The reader commands (41_command_encoder.md R120): one constructor per row of
spec/opcode_table.json. Operands are the raw operands of R120: membank, word_address, word_cnt, repeat
and mode are single bytes 0..255, and access_password and data are byte sequences of ANY length, since their
ranges and lengths are checked by the encoder and a bad one is an ordinary `ValidationError` result. -/

namespace Sys2Proof

/-- A Command: "one of six variants, and nothing else" (R120). -/
inductive Instr where
  /-- `Reset`, opcode 0x70 (R130). -/
  | reset
  /-- `ReadTag` with membank, word_address, word_cnt, opcode 0x81 (R131). -/
  | read (membank wordAddress wordCnt : Byte)
  /-- `WriteTag` with membank, access_password, word_address, word_cnt, data, opcode 0x82 (R132). -/
  | write (membank : Byte) (accessPassword : Bytes) (wordAddress wordCnt : Byte) (data : Bytes)
  /-- `RealtimeInventory` with repeat, opcode 0x89 (R133). -/
  | inventory (rounds : Byte)
  /-- `SetBuzzer` with mode, opcode 0x7A (R134). -/
  | buzzer (mode : Byte)
  /-- `GetReaderId`, opcode 0x68 (R135). -/
  | getid
  deriving DecidableEq, Repr

end Sys2Proof
end

