-- ==== Sys2Proof/Machine/Ports.lean ====
section
/-! DEFINITION. What passes through the engine's four ports (10_state.md R32 to R35), and the closed
enumerations the state is made of: link, phase, requests, transport calls and events, error reasons with
their contexts, and the Result type. Data only. -/

namespace Sys2Proof.Machine

/-- `link` (R22). -/
inductive Link where
  | closed
  | opened
  deriving DecidableEq, Repr

/-- `phase` (R23). -/
inductive Phase where
  | idle
  | transmit
  | rxHeader
  | rxLength
  | rxBody
  deriving DecidableEq, Repr

/-- The tag's memory banks (R76), listed in the order of their codes 0 to 3. -/
inductive Membank where
  | reserved
  | epc
  | tid
  | user
  deriving DecidableEq, Repr

/-- The buzzer modes (R77), listed in the order of their codes 0 to 2. -/
inductive BuzzerMode where
  | quiet
  | round
  | tag
  deriving DecidableEq, Repr

/-- A request record of the host request port (R34).
The transport arguments of OPEN pass through unread (R191). -/
inductive Request where
  | openLink (port : Text) (baudRate timeout : Nat)
  | closeLink
  | exchange (cmd : Instr) (broadcast confirm : Bool)
  deriving DecidableEq, Repr

/-- What the transport's `open` answers: an environment draw (R191, I18). -/
inductive OpenAnswer where
  | openOk
  | openFail
  deriving DecidableEq, Repr

/-- What the transport's `write` answers (R195). -/
inductive WriteAnswer where
  | writeOk
  | writeFail
  deriving DecidableEq, Repr

/-- One event of the transport RX port (R32, R196). -/
inductive RxEvent where
  | byte (b : Byte)
  | timeout
  | disconnected
  deriving DecidableEq, Repr

/-- One call the engine makes on the transport (R191, R192, R195, R196).
A `read` carries the number of bytes asked for (always 1) and the time limit `BYTE_TIMEOUT` (R198). -/
inductive TransportCall where
  | openCall (port : Text) (baudRate timeout : Nat)
  | closeCall
  | writeCall (frame : Bytes)
  | readCall (count limit : Nat)
  deriving DecidableEq, Repr

/-- The thirteen named categories of the Error Catalog (R170). -/
inductive NamedCategory where
  | success
  | commandFail
  | tagInventoryError
  | tagReadError
  | tagWriteError
  | tagLockError
  | tagKillError
  | noTagError
  | bufferEmpty
  | paramInvalid
  | wordCountTooLong
  | membankOutOfRange
  | lockOutOfRange
  deriving DecidableEq, Repr

/-- What a code byte decodes to (R171, R172): a named category, or the fallback carrying the raw byte. -/
inductive Category where
  | named (name : NamedCategory)
  | unhandled (code : Byte)
  deriving DecidableEq, Repr

/-- `CHECKSUM_POLICY` (R6, R155). -/
inductive ChecksumPolicy where
  | warnOnly
  | reject
  deriving DecidableEq, Repr

/-- The warning set (R27): bit 0 is `W_CHECKSUM`, bit 1 is `W_CMD_ECHO`. -/
abbrev Warn := BitVec 2

/-- ValidationError reasons (R212). -/
inductive ValidationReason where
  | wordLimit
  | passwordLength
  | dataLength
  | membankRange
  | modeRange
  | frameTooLong
  deriving DecidableEq, Repr

/-- ProtocolError reasons with the context each carries (R213, R175).
In `malformedLength`, DL and RL are present only where they were already read. -/
inductive ProtocolError where
  | badHeader (received : Byte)
  | checksumMismatch (expected received : Byte)
  | malformedLength (len : Byte) (dl rl : Option Byte) (body : Bytes)
  deriving DecidableEq, Repr

/-- The context of a `Disconnected` (R191 `op: OPEN`; R195 `phase: Transmit`; R199 `phase, received`). -/
inductive DisconnectContext where
  | opening
  | transmitting
  | receiving (phase : Phase) (received : Nat)
  deriving DecidableEq, Repr

/-- TransportError reasons with their context (R214, R197, R199). -/
inductive TransportError where
  | timeout (phase : Phase) (received : Nat)
  | disconnected (context : DisconnectContext)
  | notOpen
  deriving DecidableEq, Repr

/-- The fields of a ReadResult (R35, R161). -/
structure ReadFields where
  tagCount : Nat
  pc       : Bytes
  epc      : Bytes
  crc      : Bytes
  data     : Bytes
  addr     : Byte
  cmd      : Byte
  trailer  : Bytes
  warn     : Warn
  deriving DecidableEq, Repr

/-- The fields of a WriteResult (R35, R165). -/
structure WriteFields where
  tagCount       : Nat
  pc             : Bytes
  epc            : Bytes
  crc            : Bytes
  statusCategory : Category
  statusCode     : Byte
  writeCount     : Byte
  addr           : Byte
  cmd            : Byte
  trailer        : Bytes
  warn           : Warn
  deriving DecidableEq, Repr

/-- The outcome of a host operation (R35). -/
inductive Result where
  | done
  | errorResponse (category : Category) (code addr cmd : Byte) (warn : Warn)
  | readResult (fields : ReadFields)
  | writeResult (fields : WriteFields)
  | rawResponse (addr cmd : Byte) (data : Bytes) (warn : Warn)
  | validationError (reason : ValidationReason)
  | destructiveWriteWarning (membank wordAddress wordCnt : Byte)
  | protocolError (error : ProtocolError)
  | transportError (error : TransportError)
  deriving DecidableEq, Repr, Inhabited

/-- The Command Encoder's outcome type (R129). -/
inductive EncodeOutcome where
  | ok (payload : Bytes)
  | err (reason : ValidationReason)
  | warn (membank wordAddress wordCnt : Byte)
  deriving DecidableEq, Repr

/-- The four failure classes of the source, the confirmation request, and success (R210, R211). -/
inductive ResultClass where
  | success
  | deviceError
  | validationError
  | warning
  | protocolError
  | transportError
  deriving DecidableEq, Repr

end Sys2Proof.Machine
end

