-- ==== Sys2Proof/Config.lean ====
section
/-! DEFINITION. The implementation parameters of 00_scope.md R6 and the model's free values.
"source" parameters are constants. The "decided" parameters, whose values R6 gives as defaults of a configuration
(membank codes, buzzer mode codes, RESERVED_WORD_LIMIT, ERROR_CATALOG, CHECKSUM_POLICY), and the OPEN BYTE_TIMEOUT
are the record `Cfg`, which State carries unchanged, so that a statement about every state is a statement about every
configuration. What the source fixes of a decided parameter is a field of its type, so that no configuration departs
from it. -/

namespace Sys2Proof.Config

/-- `HEADER` (R6, source). -/
def header : Byte := 0xA0#8
/-- `READER_ADDRESS` (R6, source). -/
def readerAddress : Byte := 0x01#8
/-- `BROADCAST_ADDRESS` (R6, source). -/
def broadcastAddress : Byte := 0xFF#8
/-- `OP_RESET` (R6, source). -/
def opReset : Byte := 0x70#8
/-- `OP_READ` (R6, source). -/
def opRead : Byte := 0x81#8
/-- `OP_WRITE` (R6, source). -/
def opWrite : Byte := 0x82#8
/-- `OP_INVENTORY` (R6, source). -/
def opInventory : Byte := 0x89#8
/-- `OP_GET_ID` (R6, source). -/
def opGetId : Byte := 0x68#8
/-- `OP_BUZZER` (R6, source). -/
def opBuzzer : Byte := 0x7A#8
/-- `WORD_LIMIT(EPC)` in words (R6, source). -/
def epcWordLimit : Nat := 8
/-- `WORD_LIMIT(TID)` in words (R6, source). -/
def tidWordLimit : Nat := 12
/-- `WORD_LIMIT(User)` in words (R6, source). -/
def userWordLimit : Nat := 32
/-- `PASSWORD_LEN` (R6, source). -/
def passwordLen : Nat := 4
/-- `WORD_BYTES` (R6, source). -/
def wordBytes : Nat := 2
/-- `INVENTORY_DEFAULT_REPEAT` (R6, source). -/
def inventoryDefaultRepeat : Byte := 1#8
/-- `MAX_PAYLOAD` (R6, derived from the length byte). -/
def maxPayload : Nat := 253
/-- `ERROR_STATUS_LEN` (R6, source). -/
def errorStatusLen : Nat := 4
/-- The largest frame, 4 + MAX_PAYLOAD bytes (R7). -/
def maxFrame : Nat := 257
/-- The largest response body (R7). -/
def maxBody : Nat := 255

open Machine (NamedCategory ChecksumPolicy Result)

/-- The default `ERROR_CATALOG` (R170).
0x36 is the source's; the other codes are the spec's default table (D29), which it calls general knowledge. -/
def defaultCatalog : List (Byte × NamedCategory) :=
  [ (0x10#8, .success), (0x11#8, .commandFail), (0x31#8, .tagInventoryError), (0x32#8, .tagReadError),
    (0x33#8, .tagWriteError), (0x34#8, .tagLockError), (0x35#8, .tagKillError) ] ++
  [ (0x36#8, .noTagError), (0x38#8, .bufferEmpty), (0x41#8, .paramInvalid), (0x42#8, .wordCountTooLong),
    (0x43#8, .membankOutOfRange), (0x44#8, .lockOutOfRange) ]

/-- `BYTE_TIMEOUT` (R6, R198): an OPEN parameter, to which the spec gives no value.
FREE VALUE (notes/assumptions/7.md). -/
opaque byteTimeout : Nat

/-- FREE VALUE: what `pend_op` holds once it is unspecified, at the n-th draw (R24, R203; notes/assumptions/3.md). -/
opaque freePendOp : Nat → Byte
/-- FREE VALUE: what `pend_frame` holds once it is unspecified (R24, R203; notes/assumptions/3.md). -/
opaque freePendFrame : Nat → Bytes
/-- FREE VALUE: what `rx_len` holds once it is unspecified (R25, R203; notes/assumptions/3.md). -/
opaque freeRxLen : Nat → Byte
/-- FREE VALUE: what `rx_body` holds once it is unspecified (R25, R203; notes/assumptions/3.md). -/
opaque freeRxBody : Nat → Bytes
/-- FREE VALUE: what `result` holds while `result_valid = false` (R28, I1; notes/assumptions/3.md). -/
opaque freeResult : Nat → Result

end Sys2Proof.Config

namespace Sys2Proof

/-- Which bank each of the membank codes 0 to 3 names (R6 "membank codes", R76): the source gives the four codes and the
four names, one code for each, and no assignment. -/
structure MembankCodes where
  code0 : Machine.Membank
  code1 : Machine.Membank
  code2 : Machine.Membank
  code3 : Machine.Membank
  oneEach : [code0, code1, code2, code3].Nodup
  deriving DecidableEq, Repr

/-- Which mode each of the buzzer mode codes 0 to 2 names (R6 "buzzer mode codes", R77). -/
structure BuzzerCodes where
  code0 : Machine.BuzzerMode
  code1 : Machine.BuzzerMode
  code2 : Machine.BuzzerMode
  oneEach : [code0, code1, code2].Nodup
  deriving DecidableEq, Repr

/-- `ERROR_CATALOG` (R6, R170): a partial map, as a list of pairs of which the first for a code counts, within the two
constraints the source fixes. -/
structure ErrorCatalog where
  entries : List (Byte × Machine.NamedCategory)
  /-- 0x36 maps to NoTagError. -/
  noTag : entries.lookup 0x36#8 = some .noTagError
  /-- 0x99 is not mapped. -/
  unmapped : entries.lookup 0x99#8 = none
  deriving DecidableEq, Repr

/-- The parameters a configuration may choose (R6): fixed for a run (R21). -/
structure Cfg where
  /-- Membank codes (R6, R76; default D2). -/
  membankCodes : MembankCodes
  /-- Buzzer mode codes (R6, R77; default D3). -/
  buzzerCodes : BuzzerCodes
  /-- `RESERVED_WORD_LIMIT` (R6, R122; default 4). -/
  reservedWordLimit : Nat
  /-- `ERROR_CATALOG` (R6, R170). -/
  errorCatalog : ErrorCatalog
  /-- `CHECKSUM_POLICY` (R6, R155; default Warn). -/
  checksumPolicy : Machine.ChecksumPolicy
  /-- `BYTE_TIMEOUT` (R6, R198): OPEN. -/
  byteTimeout : Nat
  deriving DecidableEq, Repr

/-- Reserved 0, EPC 1, TID 2, User 3 (R6, R76). -/
def Config.membankCodes : MembankCodes := ⟨.reserved, .epc, .tid, .user, by decide⟩

/-- Quiet 0, Round 1, Tag 2 (R6, R77). -/
def Config.buzzerCodes : BuzzerCodes := ⟨.quiet, .round, .tag, by decide⟩

/-- The configuration with the defaults of R6. -/
def Config.defaults : Cfg where
  membankCodes := Config.membankCodes
  buzzerCodes := Config.buzzerCodes
  reservedWordLimit := 4
  errorCatalog := ⟨Config.defaultCatalog, by decide, by decide⟩
  checksumPolicy := .warnOnly
  byteTimeout := Config.byteTimeout

end Sys2Proof
end

