-- ==== Sys2Proof/Machine/ByteSeq.lean ====
section
/-! DEFINITION. The byte-sequence notation of 00_scope.md R8: `s[i]`, the inclusive slice `s[i..j]`, `sum(s)`, `u8(v)`;
and the hexadecimal digits of a byte's display (R107). -/

namespace Sys2Proof.Machine

/-- `u8(v) = v mod 256` (R8). -/
def u8 (v : Nat) : Byte := BitVec.ofNat 8 v

/-- `s[i]`, 0-based (R8).
Every index the decoder reads lies inside the body (R174); past the end this answers 0. -/
def byteAt (s : Bytes) (i : Nat) : Byte := s.getD i 0#8

/-- `s[i..j]`: the elements i through j inclusive, empty when j < i (R8). -/
def slice (s : Bytes) (i j : Nat) : Bytes := (s.drop i).take (j + 1 - i)

/-- `sum(s)`: a natural number, no wrap-around (R8). -/
def byteSum (s : Bytes) : Nat := (s.map BitVec.toNat).sum

/-- The sixteen hexadecimal digits in the order of their values: R107 writes them in uppercase. -/
def hexDigits : Text := "0123456789ABCDEF".toList

end Sys2Proof.Machine
end

