-- ==== Sys2Proof/Machine/FrameCodec.lean ====
section
/-! DEFINITION. The Frame Codec (40_frame_codec.md): checksum, build_frame, verify_frame. Pure functions (R9). -/

namespace Sys2Proof.Machine

/-- `checksum(s) = (256 - (sum(s) mod 256)) mod 256` (R100). -/
def checksum (s : Bytes) : Byte := u8 ((256 - byteSum s % 256) % 256)

/-- The address byte of a sent frame (R72, R102). -/
def addressByte (broadcast : Bool) : Byte :=
  if broadcast then Config.broadcastAddress else Config.readerAddress

/-- Header, length, address and payload: everything the checksum covers (R70, R71, R102). -/
def framePrefix (payload : Bytes) (broadcast : Bool) : Bytes :=
  Config.header :: u8 (payload.length + 2) :: addressByte broadcast :: payload

/-- `build_frame(payload, broadcast)` (R102, R103). -/
def buildFrame (payload : Bytes) (broadcast : Bool) : Except ValidationReason Bytes :=
  if payload.length > Config.maxPayload then .error .frameTooLong
  else .ok (framePrefix payload broadcast ++ [checksum (framePrefix payload broadcast)])

/-- `verify_frame(f)` (R104); false of the empty sequence. -/
def verifyFrame (f : Bytes) : Bool :=
  match f.getLast? with
  | none => false
  | some last => checksum f.dropLast == last

end Sys2Proof.Machine
end

