-- ==== Sys2Proof/Machine/Operands.lean ====
section
/-! DEFINITION. The operand forms and operand checks of the six commands (30_encoding.md R75 to R77, R86;
41_command_encoder.md R121 to R127, R136): membank and mode codes, the word ceilings, the password and data
lengths, the destructive-write condition. -/

namespace Sys2Proof.Machine

/-- The code of a membank (R76). -/
def Membank.code (cfg : Cfg) (bank : Membank) : Byte :=
  if bank = cfg.membankCodes.code0 then 0#8
  else if bank = cfg.membankCodes.code1 then 1#8
  else if bank = cfg.membankCodes.code2 then 2#8
  else 3#8

/-- The membank a byte names; codes 4..255 name none (R76). -/
def membankOfCode (cfg : Cfg) (m : Byte) : Option Membank :=
  if m = 0#8 then some cfg.membankCodes.code0
  else if m = 1#8 then some cfg.membankCodes.code1
  else if m = 2#8 then some cfg.membankCodes.code2
  else if m = 3#8 then some cfg.membankCodes.code3
  else none

/-- The membank range check (R121): codes 0 to 3 name a bank, whichever it is. -/
def membankOk (m : Byte) : Bool := decide (m.toNat ≤ 3)

/-- The code of a buzzer mode (R77). -/
def BuzzerMode.code (cfg : Cfg) (mode : BuzzerMode) : Byte :=
  if mode = cfg.buzzerCodes.code0 then 0#8
  else if mode = cfg.buzzerCodes.code1 then 1#8
  else 2#8

/-- `WORD_LIMIT`: "one lookup shared by read and write" (R122). -/
def wordLimit (cfg : Cfg) : Membank → Nat
  | .reserved => cfg.reservedWordLimit
  | .epc => Config.epcWordLimit
  | .tid => Config.tidWordLimit
  | .user => Config.userWordLimit

/-- The checks ReadTag and WriteTag share, in the order of R126: the membank range (R121), then the word limit (R123),
whose sum is on naturals and whose bound is inclusive. -/
def checkRange (cfg : Cfg) (membank wordAddress wordCnt : Byte) : Option ValidationReason :=
  match membankOfCode cfg membank with
  | none => some .membankRange
  | some bank =>
    if wordAddress.toNat + wordCnt.toNat > wordLimit cfg bank then some .wordLimit else none

/-- The password-length check (R124). -/
def passwordLengthOk (accessPassword : Bytes) : Bool := accessPassword.length == Config.passwordLen

/-- The data-length check, on naturals (R125). -/
def dataLengthOk (wordCnt : Byte) (data : Bytes) : Bool := data.length == Config.wordBytes * wordCnt.toNat

/-- The four checks of WriteTag, in the order of R126; the first that fails gives the reason. -/
def checkWrite (cfg : Cfg) (membank : Byte) (accessPassword : Bytes) (wordAddress wordCnt : Byte) (data : Bytes) :
    Option ValidationReason :=
  match checkRange cfg membank wordAddress wordCnt with
  | some reason => some reason
  | none =>
    if !passwordLengthOk accessPassword then some .passwordLength
    else if !dataLengthOk wordCnt data then some .dataLength
    else none

/-- The destructive-write condition: EPC bank below word address 2, whatever word_cnt is (R127). -/
def isDestructive (cfg : Cfg) (membank wordAddress : Byte) : Bool :=
  membankOfCode cfg membank == some .epc && decide (wordAddress.toNat < 2)

/-- The mode range check (R136): modes 0 to 2. -/
def modeOk (mode : Byte) : Bool := decide (mode.toNat ≤ 2)

end Sys2Proof.Machine
end

