-- ==== Sys2Proof/WellFormed.lean ====
section
/-! DEFINITION. Which commands are well formed: those whose operands pass the checks of 41_command_encoder.md
R121 to R125 and R136. An ill-formed command is still run by the engine, which answers a `ValidationError` result. -/

namespace Sys2Proof

open Machine

/-- The membank operand names a bank (R121). -/
def Instr.membankChecked : Instr → Bool
  | .read m _ _ => membankOk m
  | .write m _ _ _ _ => membankOk m
  | _ => true

/-- The word range stays under the membank's ceiling (R123). -/
def Instr.rangeChecked (cfg : Cfg) : Instr → Bool
  | .read m a c => (checkRange cfg m a c).isNone
  | .write m _ a c _ => (checkRange cfg m a c).isNone
  | _ => true

/-- The access password is 4 bytes (R124). -/
def Instr.passwordChecked : Instr → Bool
  | .write _ pw _ _ _ => passwordLengthOk pw
  | _ => true

/-- The write data is `2 * word_cnt` bytes (R125). -/
def Instr.dataChecked : Instr → Bool
  | .write _ _ _ c d => dataLengthOk c d
  | _ => true

/-- The buzzer mode is 0, 1 or 2 (R136). -/
def Instr.modeChecked : Instr → Bool
  | .buzzer m => modeOk m
  | _ => true

/-- The command has an encoding (R74): its fixed fields hold codes the spec names and its byte sequences have the
lengths the payload gives them. The word ceiling is no part of this, since no field of the payload encodes it. -/
def Instr.encodable (i : Instr) : Bool :=
  i.membankChecked && i.passwordChecked && i.dataChecked && i.modeChecked

/-- The command passes every check of the Command Encoder (R126, R136) under a configuration. -/
def Instr.wellFormed (cfg : Cfg) (i : Instr) : Bool := i.encodable && i.rangeChecked cfg

/-- `Instr.wellFormed` as a proposition. -/
abbrev Instr.WellFormed (cfg : Cfg) (i : Instr) : Prop := i.wellFormed cfg = true

/-- The command is a WriteTag to the PC/CRC region, which needs `confirm` (R127). -/
def Instr.destructive (cfg : Cfg) : Instr → Bool
  | .write m _ a _ _ => isDestructive cfg m a
  | _ => false

end Sys2Proof
end

