-- ==== Sys2Proof/Decode.lean ====
section
/-! DEFINITION. From bytes to commands and back (30_encoding.md R70 to R77, R83 to R86). `decode` reads one command
payload from the front of a byte sequence and rejects by name; `encode` writes the payload of R74. `decodeFrame` reads
a whole sent frame. The engine itself only encodes (R62): the decoder says what a sent payload means. -/

namespace Sys2Proof

open Machine

/-- Why a byte sequence is no command. -/
inductive DecodeError where
  /-- There is no opcode byte. -/
  | noOpcode
  /-- The first payload byte is none of the six opcodes (R84, R85). -/
  | unknownOpcode (opcode : Byte)
  /-- The payload ends before the command's last field (R74). -/
  | truncated (opcode : Byte)
  /-- The membank byte names no bank (R76, R86). -/
  | membankRange (membank : Byte)
  /-- The mode byte names no mode (R77, R86). -/
  | modeRange (mode : Byte)
  /-- The frame is shorter than header, length, address and checksum (R70). -/
  | frameTooShort
  /-- The first frame byte is not `HEADER` (R70). -/
  | badHeader (received : Byte)
  /-- The length byte does not count the bytes that follow it (R71). -/
  | badLength (received : Byte)
  /-- The address byte is neither the reader's nor the broadcast address (R72). -/
  | badAddress (received : Byte)
  /-- The frame does not verify (R73). -/
  | badChecksum (received : Byte)
  /-- Bytes follow the command's last field inside the payload (R74). -/
  | trailingBytes
  deriving DecidableEq, Repr

/-- One row of spec/opcode_table.json: the first payload byte, under the mask, selects the command (R84). -/
structure OpcodeRow where
  pattern : Byte
  mask : Byte
  parse : Bytes → Except DecodeError (Instr × Bytes)

/-- The operands of ReadTag: membank, word_address, word_cnt at payload 1, 2, 3 (R74). -/
def parseRead : Bytes → Except DecodeError (Instr × Bytes)
  | m :: a :: c :: rest =>
    if membankOk m then .ok (.read m a c, rest) else .error (.membankRange m)
  | _ => .error (.truncated Config.opRead)

/-- The operands of WriteTag: password at payload 1..4, membank 5, word_address 6, word_cnt 7, then the data (R74). -/
def parseWrite : Bytes → Except DecodeError (Instr × Bytes)
  | p0 :: p1 :: p2 :: p3 :: m :: a :: c :: rest =>
    if membankOk m then
      if rest.length < Config.wordBytes * c.toNat then .error (.truncated Config.opWrite)
      else .ok (.write m [p0, p1, p2, p3] a c (rest.take (Config.wordBytes * c.toNat)),
                rest.drop (Config.wordBytes * c.toNat))
    else .error (.membankRange m)
  | _ => .error (.truncated Config.opWrite)

/-- The operand of RealtimeInventory: repeat at payload 1, any byte (R74, R86). -/
def parseInventory : Bytes → Except DecodeError (Instr × Bytes)
  | r :: rest => .ok (.inventory r, rest)
  | [] => .error (.truncated Config.opInventory)

/-- The operand of SetBuzzer: mode at payload 1 (R74, R77). -/
def parseBuzzer : Bytes → Except DecodeError (Instr × Bytes)
  | m :: rest => if modeOk m then .ok (.buzzer m, rest) else .error (.modeRange m)
  | [] => .error (.truncated Config.opBuzzer)

/-- The opcode map (R84), in the order of spec/opcode_table.json. -/
def opcodeTable : List OpcodeRow :=
  [ ⟨Config.opReset, 0xFF#8, fun rest => .ok (.reset, rest)⟩,
    ⟨Config.opRead, 0xFF#8, parseRead⟩,
    ⟨Config.opWrite, 0xFF#8, parseWrite⟩,
    ⟨Config.opInventory, 0xFF#8, parseInventory⟩,
    ⟨Config.opBuzzer, 0xFF#8, parseBuzzer⟩,
    ⟨Config.opGetId, 0xFF#8, fun rest => .ok (.getid, rest)⟩ ]

/-- An opcode byte meets a row. -/
def OpcodeRow.selects (row : OpcodeRow) (opcode : Byte) : Bool := opcode &&& row.mask == row.pattern

/-- Reads one command payload and answers the command with the bytes after it. Total. -/
def decode : Bytes → Except DecodeError (Instr × Bytes)
  | [] => .error .noOpcode
  | opcode :: rest =>
    match opcodeTable.find? (·.selects opcode) with
    | some row => row.parse rest
    | none => .error (.unknownOpcode opcode)

/-- The opcode of a command (R84). -/
def Instr.opcode : Instr → Byte
  | .reset => Config.opReset
  | .read _ _ _ => Config.opRead
  | .write _ _ _ _ _ => Config.opWrite
  | .inventory _ => Config.opInventory
  | .buzzer _ => Config.opBuzzer
  | .getid => Config.opGetId

/-- The payload of a command, field by field from the table of R74. -/
def encode : Instr → Bytes
  | .reset => [0x70#8]
  | .read m a c => [0x81#8, m, a, c]
  | .write m pw a c d => 0x82#8 :: (pw ++ m :: a :: c :: d)
  | .inventory r => [0x89#8, r]
  | .buzzer m => [0x7A#8, m]
  | .getid => [0x68#8]

/-- The column `n` of R74: how many bytes the payload of a command has. -/
def Instr.payloadLength : Instr → Nat
  | .reset => 1
  | .read _ _ _ => 4
  | .write _ _ _ c _ => 8 + 2 * c.toNat
  | .inventory _ => 2
  | .buzzer _ => 2
  | .getid => 1

/-- Whether an address byte asks for broadcast (R72). -/
def decodeAddress (a : Byte) : Option Bool :=
  if a = Config.readerAddress then some false
  else if a = Config.broadcastAddress then some true
  else none

/-- Reads a whole sent frame (R70 to R73): whether it is broadcast, and its command. -/
def decodeFrame (f : Bytes) : Except DecodeError (Bool × Instr) :=
  match f with
  | h :: len :: a :: c :: rest =>
    if h ≠ Config.header then .error (.badHeader h)
    else if len.toNat ≠ rest.length + 2 then .error (.badLength len)
    else if !verifyFrame f then .error (.badChecksum ((c :: rest).getLastD c))
    else match decodeAddress a with
      | none => .error (.badAddress a)
      | some broadcast =>
        match decode (c :: rest).dropLast with
        | .error e => .error e
        | .ok (i, []) => .ok (broadcast, i)
        | .ok (_, _ :: _) => .error .trailingBytes
  | _ => .error .frameTooShort

/-- The k-th byte of a number, least significant byte first: the numbering of spec/opcode_table.json, in which
bit 0 is the least significant bit of payload byte 0 and a later payload byte's bits count on from it. -/
def tableByte (w k : Nat) : Byte := BitVec.ofNat 8 (w >>> (8 * k))

/-- The bytes a table word gives itself: `nbits`, in whole bytes. -/
def givenBytes (nbits w : Nat) : Bytes := (List.range ((nbits + 7) / 8)).map (tableByte w)

/-- The payload bytes a table word stands for: its own, then operand bytes of zeros for every field it may lack: the 7
fixed operand bytes of the longest command and the data its word_cnt byte (payload 7) asks for (R74). -/
def tableBytes (nbits w : Nat) : Bytes :=
  givenBytes nbits w ++
    List.replicate (7 + Config.wordBytes * (byteAt (givenBytes nbits w) 7).toNat) 0#8

/-- The command the decoder reads from a word numbered as spec/opcode_table.json numbers it. -/
def decodeTableWord (nbits w : Nat) : Option Instr :=
  match decode (tableBytes nbits w) with
  | .ok (i, _) => some i
  | .error _ => none

end Sys2Proof
end

