-- ==== Sys2Proof/Machine/CommandEncoder.lean ====
section
/-! DEFINITION. The Command Encoder (41_command_encoder.md R129 to R137): six pure encoders, each answering a payload,
a ValidationError reason, or the destructive-write warning. -/

namespace Sys2Proof.Machine

/-- `encode_reset()` (R130). -/
def encodeReset : Bytes := [Config.opReset]

/-- `encode_read(membank, word_address, word_cnt)` (R131). -/
def encodeRead (cfg : Cfg) (membank wordAddress wordCnt : Byte) : EncodeOutcome :=
  match checkRange cfg membank wordAddress wordCnt with
  | some reason => .err reason
  | none => .ok [Config.opRead, membank, wordAddress, wordCnt]

/-- `encode_write(data, membank, access_password, word_address, word_cnt, confirm)` (R132, R126 to R128). -/
def encodeWrite (cfg : Cfg) (data : Bytes) (membank : Byte) (accessPassword : Bytes) (wordAddress wordCnt : Byte)
    (confirm : Bool) : EncodeOutcome :=
  match checkWrite cfg membank accessPassword wordAddress wordCnt data with
  | some reason => .err reason
  | none =>
    if isDestructive cfg membank wordAddress && !confirm then .warn membank wordAddress wordCnt
    else .ok ([Config.opWrite] ++ accessPassword ++ [membank, wordAddress, wordCnt] ++ data)

/-- `encode_inventory(repeat)` (R133). -/
def encodeInventory (rounds : Byte) : Bytes := [Config.opInventory, rounds]

/-- `encode_set_buzzer(mode)` (R134, R136). -/
def encodeSetBuzzer (mode : Byte) : EncodeOutcome :=
  if modeOk mode then .ok [Config.opBuzzer, mode] else .err .modeRange

/-- `encode_get_id()` (R135). -/
def encodeGetId : Bytes := [Config.opGetId]

/-- `encode(cmd, confirm)` (R129). -/
def encodeCommand (cfg : Cfg) (cmd : Instr) (confirm : Bool) : EncodeOutcome :=
  match cmd with
  | .reset => .ok encodeReset
  | .read m a c => encodeRead cfg m a c
  | .write m pw a c d => encodeWrite cfg d m pw a c confirm
  | .inventory r => .ok (encodeInventory r)
  | .buzzer m => encodeSetBuzzer m
  | .getid => .ok encodeGetId

end Sys2Proof.Machine
end

