-- ==== Sys2Proof/Machine/ErrorCatalog.lean ====
section
/-! DEFINITION. The Error Catalog lookup (42_response_decoder.md R170 to R172) and the numeric codes and classes of
60_exceptions.md R210 to R215. -/

namespace Sys2Proof.Machine

/-- `catalog(code)`: the catalog's category, else the fallback carrying the raw byte (R171, R172). -/
def catalog (cfg : Cfg) (code : Byte) : Category :=
  match cfg.errorCatalog.entries.lookup code with
  | some name => .named name
  | none => .unhandled code

/-- Result kind codes (R211). -/
def Result.kindCode : Result → Nat
  | .done => 0
  | .errorResponse _ _ _ _ _ => 1
  | .readResult _ => 2
  | .writeResult _ => 3
  | .rawResponse _ _ _ _ => 4
  | .validationError _ => 5
  | .destructiveWriteWarning _ _ _ => 6
  | .protocolError _ => 7
  | .transportError _ => 8

/-- The class of a result (R210, R211). -/
def Result.errorClass : Result → ResultClass
  | .done => .success
  | .errorResponse _ _ _ _ _ => .deviceError
  | .readResult _ => .success
  | .writeResult _ => .success
  | .rawResponse _ _ _ _ => .success
  | .validationError _ => .validationError
  | .destructiveWriteWarning _ _ _ => .warning
  | .protocolError _ => .protocolError
  | .transportError _ => .transportError

/-- ValidationError reason codes (R212). -/
def ValidationReason.code : ValidationReason → Nat
  | .wordLimit => 1
  | .passwordLength => 2
  | .dataLength => 3
  | .membankRange => 4
  | .modeRange => 5
  | .frameTooLong => 6

/-- ProtocolError reason codes (R213). -/
def ProtocolError.code : ProtocolError → Nat
  | .badHeader _ => 1
  | .checksumMismatch _ _ => 2
  | .malformedLength _ _ _ _ => 3

/-- TransportError reason codes (R214). -/
def TransportError.code : TransportError → Nat
  | .timeout _ _ => 1
  | .disconnected _ => 2
  | .notOpen => 3

/-- The reason code a result carries, for the three error kinds that have reasons (R212 to R214). -/
def Result.reasonCode : Result → Option Nat
  | .validationError r => some r.code
  | .protocolError e => some e.code
  | .transportError e => some e.code
  | _ => none

/-- The warning set a result carries, for the four kinds that carry one (R203, R216). -/
def Result.warnings : Result → Option Warn
  | .errorResponse _ _ _ _ w => some w
  | .readResult r => some r.warn
  | .writeResult r => some r.warn
  | .rawResponse _ _ _ w => some w
  | _ => none

end Sys2Proof.Machine
end

