-- ==== Sys2Proof/Machine/State.lean ====
section
/-! DEFINITION. The state of the Reader Protocol Engine (10_state.md), the reasons a step can stop, and the state
after reset. State holds: the configuration in force (R6, R21; no step changes it); every state element of the engine
(R22 to R28, "exactly the state elements of this file", R20); the engine's ports as plain data (R32): what the host
and the transport supply, and the record of the calls the engine has made on the transport; and one counter of the
model's own for free values. The engine has no addressable memory (R50, R51), so State has none. -/

namespace Sys2Proof.Machine

/-- Why the machine stops with a fault.
It has no constructor: the engine has no trap (60_exceptions.md), every failure it knows is a `Result` it completes
with (R203, R220), and no rule of the spec stops the machine. -/
inductive Fault
  deriving DecidableEq, Repr

/-- Why an instruction has no meaning. -/
inductive Refusal where
  /-- Raised by `exec` alone, for an instruction whose meaning is not written; safe (a run stops there).
  No arm raises it: all six commands have their meaning. -/
  | notModelled (mnemonic : String)
  deriving DecidableEq, Repr

/-- The state. Reset values: `State.reset`. -/
@[ext]
structure State where
  /-- The configuration `Cfg` in force (R6, R21). -/
  cfg : Cfg
  /-- `link` (R22). -/
  link : Link
  /-- `phase` (R23). -/
  phase : Phase
  /-- `pend_op`, meaningful only when `phase` is not Idle (R24). -/
  pendOp : Byte
  /-- `pend_frame`, at most 257 bytes, meaningful only when `phase` is not Idle (R24). -/
  pendFrame : Bytes
  /-- `rx_len`, meaningful only in RxBody (R25). -/
  rxLen : Byte
  /-- `rx_body`, meaningful only in RxBody (R25). -/
  rxBody : Bytes
  /-- `warn` (R27). -/
  warn : Warn
  /-- `result`, observable only while `result_valid` (R28, R37). -/
  result : Result
  /-- `result_valid` (R28). -/
  resultValid : Bool
  /-- The `broadcast` line of the request port (R31, R34): the option of the EXCHANGE last presented. -/
  reqBroadcast : Bool
  /-- The `confirm` line of the request port (R31, R34). -/
  reqConfirm : Bool
  /-- The requests the host offers, next first: the host's program (R30, R32 port 1).
  It is the host's list, not a queue of the engine (R205). -/
  hostRequests : List Request
  /-- The reset input, sampled once a step, next sample first (R240); past its end it is not asserted. -/
  resetInput : List Bool
  /-- What the transport's `open` will answer, next first (R191, I18). -/
  openAnswers : List OpenAnswer
  /-- What the transport's `write` will answer, next first (R32 port 3, R195). -/
  writeAnswers : List WriteAnswer
  /-- The RX stream, residue included: the events of the byte-read steps to come, next first (R32 port 4, R63, R196). -/
  rxStream : List RxEvent
  /-- The calls made on the transport so far, first call first (R50, R53, R60). -/
  calls : List TransportCall
  /-- MODEL'S OWN: how many free values have been drawn (notes/assumptions/3.md). -/
  draws : Nat
  deriving DecidableEq, Repr

/-- The state after engine reset at power-on (R37, R240), with the default configuration and no input yet.
`link`, `phase`, `warn` and `result_valid` are the spec's (R37). The elements R37 leaves unspecified hold a value the
model names (DESIGN CHOICE, notes/assumptions/2.md), as do the request lines (R34 defaults) and the draw counter. -/
def State.reset : State where
  cfg := Config.defaults
  link := .closed
  phase := .idle
  pendOp := 0#8
  pendFrame := []
  rxLen := 0#8
  rxBody := []
  warn := 0#2
  result := .done
  resultValid := false
  reqBroadcast := false
  reqConfirm := false
  hostRequests := []
  resetInput := []
  openAnswers := []
  writeAnswers := []
  rxStream := []
  calls := []
  draws := 0

end Sys2Proof.Machine
end

