-- ==== Sys2Proof/Machine/Ops.lean ====
section
/-! DEFINITION. The named operations over the state: acceptance of a request (R190), completion (R203), which is also
the engine's error entry (R220), engine reset (R240), the launch of an exchange (R193, R194), the record of transport
calls. There is no return from an error: "the host continues by issuing its next request" (R222). -/

namespace Sys2Proof.Machine

/-- The engine accepts a request: `result_valid <- false` and `warn <- 0` (R190).
`result` becomes unspecified (I1): a free value. -/
def State.accept (s : State) : State :=
  { s with
    resultValid := false
    warn := 0#2
    result := Config.freeResult s.draws
    draws := s.draws + 1 }

/-- Completion with a result, from any phase (R203), the one way a host operation ends, errors included (R220).
`pend_op`, `pend_frame`, `rx_len` and `rx_body` become unspecified: free values within the widths of R7 and R24. -/
def State.complete (s : State) (r : Result) : State :=
  { s with
    result := r
    resultValid := true
    phase := .idle
    warn := r.warnings.getD s.warn
    pendOp := Config.freePendOp s.draws
    pendFrame := (Config.freePendFrame s.draws).take Config.maxFrame
    rxLen := Config.freeRxLen s.draws
    rxBody := (Config.freeRxBody s.draws).take Config.maxBody
    draws := s.draws + 1 }

/-- Engine reset (R240): every state element to its value of R37, any exchange aborted without a result, the
transport and its buffered bytes untouched. -/
def State.engineReset (s : State) : State :=
  { s with
    link := State.reset.link
    phase := State.reset.phase
    pendOp := State.reset.pendOp
    pendFrame := State.reset.pendFrame
    rxLen := State.reset.rxLen
    rxBody := State.reset.rxBody
    warn := State.reset.warn
    result := State.reset.result
    resultValid := State.reset.resultValid }

/-- A call made on the transport. -/
def State.call (s : State) (c : TransportCall) : State := { s with calls := s.calls ++ [c] }

/-- The requests the host still offers, once the first is taken (R190). -/
def State.takeRequest (s : State) (rest : List Request) : State := { s with hostRequests := rest }

/-- The answers of `open` still to come, once the first is taken (R191). -/
def State.takeOpenAnswer (s : State) (later : List OpenAnswer) : State := { s with openAnswers := later }

/-- The answers of `write` still to come, once the first is taken (R195). -/
def State.takeWriteAnswer (s : State) (later : List WriteAnswer) : State := { s with writeAnswers := later }

/-- The RX stream once its first event is consumed: "a consumed byte cannot be read again", and the rest stays (R58). -/
def State.takeEvent (s : State) (later : List RxEvent) : State := { s with rxStream := later }

/-- The host hands over an EXCHANGE request: its options stand on the request lines (R34), and the requests left are
those after it. -/
def State.present (s : State) (rest : List Request) (broadcast confirm : Bool) : State :=
  { s with hostRequests := rest, reqBroadcast := broadcast, reqConfirm := confirm }

/-- The frame is latched and the exchange goes to Transmit: `pend_op <- p[0]; pend_frame <- f; phase <- Transmit` (R194). -/
def State.latch (s : State) (op : Byte) (frame : Bytes) : State :=
  { s with pendOp := op, pendFrame := frame, phase := .transmit }

/-- What follows the encoder's outcome (R194): a validation failure, a warning and an unframable payload complete with
no I/O, and a framed payload is latched. -/
def State.launch (s : State) (outcome : EncodeOutcome) : State :=
  match outcome with
  | .err reason => s.complete (.validationError reason)
  | .warn m a c => s.complete (.destructiveWriteWarning m a c)
  | .ok payload =>
    match buildFrame payload s.reqBroadcast with
    | .error reason => s.complete (.validationError reason)
    | .ok frame => s.latch (byteAt payload 0) frame

/-- EXCHANGE offered to the engine (R193, R194, R205): outside Idle the request waits; in Idle it is accepted, refused
with NotOpen when the link is closed, and otherwise launched. The encoder sees the configuration and `confirm`. -/
def State.exchange (s : State) (encoder : Cfg → Bool → EncodeOutcome) : State :=
  match s.phase with
  | .idle =>
    match s.link with
    | .closed => s.accept.complete (.transportError .notOpen)
    | .opened => s.accept.launch (encoder s.cfg s.reqConfirm)
  | _ => s

end Sys2Proof.Machine
end

