-- ==== Sys2Proof/Machine/Commands.lean ====
section
/-! DEFINITION. The meanings of the six reader commands: what the engine does when the host offers
EXCHANGE(cmd, broadcast, confirm) (R190, R193, R194), with each command's own encoder (R130 to R135). The transport
events that carry the exchange on are steps of the machine (Machine/Receive.lean, Machine/Sequencer.lean). -/

namespace Sys2Proof.Machine

/-- EXCHANGE(Reset) (R130): an ordinary exchange, no engine reset (R241). -/
def execReset (s : State) : Host.Outcome State Fault Refusal :=
  .next (s.exchange fun _ _ => .ok encodeReset)

/-- EXCHANGE(ReadTag) (R131). -/
def execRead (membank wordAddress wordCnt : Byte) (s : State) : Host.Outcome State Fault Refusal :=
  .next (s.exchange fun cfg _ => encodeRead cfg membank wordAddress wordCnt)

/-- EXCHANGE(WriteTag) (R132), the only command `confirm` has an effect on (R128). -/
def execWrite (membank : Byte) (accessPassword : Bytes) (wordAddress wordCnt : Byte) (data : Bytes) (s : State) :
    Host.Outcome State Fault Refusal :=
  .next (s.exchange fun cfg confirm => encodeWrite cfg data membank accessPassword wordAddress wordCnt confirm)

/-- EXCHANGE(RealtimeInventory) (R133). -/
def execInventory (rounds : Byte) (s : State) : Host.Outcome State Fault Refusal :=
  .next (s.exchange fun _ _ => .ok (encodeInventory rounds))

/-- EXCHANGE(SetBuzzer) (R134). -/
def execBuzzer (mode : Byte) (s : State) : Host.Outcome State Fault Refusal :=
  .next (s.exchange fun _ _ => encodeSetBuzzer mode)

/-- EXCHANGE(GetReaderId) (R135). -/
def execGetid (s : State) : Host.Outcome State Fault Refusal :=
  .next (s.exchange fun _ _ => .ok encodeGetId)

end Sys2Proof.Machine
end

