-- ==== Sys2Proof/Machine/Dispatch.lean ====
section
/-! DEFINITION. One arm per command. -/

namespace Sys2Proof.Machine

/-- The host offers EXCHANGE(i, broadcast, confirm), its options on the request lines of the state (R34, R193). -/
def exec (i : Instr) (s : State) : Host.Outcome State Fault Refusal :=
  match i with
  | .reset => Sys2Proof.Machine.execReset s
  | .read m a c => Sys2Proof.Machine.execRead m a c s
  | .write m pw a c d => Sys2Proof.Machine.execWrite m pw a c d s
  | .inventory r => Sys2Proof.Machine.execInventory r s
  | .buzzer m => Sys2Proof.Machine.execBuzzer m s
  | .getid => Sys2Proof.Machine.execGetid s

end Sys2Proof.Machine
end

