-- ==== Sys2Proof/Machine/Flags.lean ====
section
/-! DEFINITION. The engine's only flags: the two warning bits (10_state.md R27), "no condition codes". -/

namespace Sys2Proof.Machine

/-- `W_CHECKSUM`, bit 0 (R27). -/
def wChecksum : Warn := 1#2

/-- `W_CMD_ECHO`, bit 1 (R27). -/
def wCmdEcho : Warn := 2#2

/-- The checksum the decoder expects of a received body (R155): over header, length byte and all of the body but
its last byte. -/
def expectedChecksum (len : Byte) (body : Bytes) : Byte :=
  checksum (Config.header :: len :: body.take (len.toNat - 1))

/-- The last body byte, which is the received checksum (R78). -/
def receivedChecksum (len : Byte) (body : Bytes) : Byte := byteAt body (len.toNat - 1)

/-- The checksum of a received body does not verify (R155). -/
def checksumFails (len : Byte) (body : Bytes) : Bool := expectedChecksum len body != receivedChecksum len body

/-- The response's command byte is not the pending opcode (R167). -/
def echoFails (pendOp : Byte) (body : Bytes) : Bool := byteAt body 1 != pendOp

/-- The warning set of a decoded response (R155, R167, R174), for a body of at least 3 bytes. -/
def responseWarnings (pendOp len : Byte) (body : Bytes) : Warn :=
  (if checksumFails len body then wChecksum else 0#2) |||
  (if echoFails pendOp body then wCmdEcho else 0#2)

end Sys2Proof.Machine
end

