-- ==== Sys2Proof/Machine/ResponseDecoder.lean ====
section
/-! DEFINITION. `decode_body` (42_response_decoder.md R154 to R174), a pure function of the configuration, the pending
opcode, the length byte and the body. The order of its checks is the one R174 makes normative. -/

namespace Sys2Proof.Machine

/-- `tag_count`: the sum of the two bytes at body indices 2 and 3, a natural number (R162). -/
def tagCount (body : Bytes) : Nat := (byteAt body 2).toNat + (byteAt body 3).toNat

/-- A malformed body, with the length bytes already read (R175). -/
def malformed (len : Byte) (dl rl : Option Byte) (body : Bytes) : Result :=
  .protocolError (.malformedLength len dl rl body)

/-- The error form, `L = 4` (R79, R156). -/
def decodeErrorBody (cfg : Cfg) (body : Bytes) (w : Warn) : Result :=
  .errorResponse (catalog cfg (byteAt body 2)) (byteAt body 2) (byteAt body 0) (byteAt body 1) w

/-- The ReadResult of a body whose lengths passed, with DL and E (R80, R161). -/
def readResultOf (body : Bytes) (len dl e : Nat) (w : Warn) : Result :=
  .readResult
    { tagCount := tagCount body
      pc := slice body 5 6
      epc := slice body 7 (6 + e)
      crc := slice body (7 + e) (8 + e)
      data := slice body (9 + e) (6 + dl)
      addr := byteAt body 0
      cmd := byteAt body 1
      trailer := slice body (8 + dl) (len - 2)
      warn := w }

/-- The read layout (R158 to R161). E is computed on integers (R160). -/
def decodeReadBody (len : Byte) (body : Bytes) (w : Warn) : Result :=
  if len.toNat < 6 then malformed len none none body
  else
    let dl := byteAt body 4
    if len.toNat < 9 + dl.toNat then malformed len (some dl) none body
    else
      let rl := byteAt body (7 + dl.toNat)
      let e : Int := (dl.toNat : Int) - rl.toNat - 2
      if e < 0 then malformed len (some dl) (some rl) body
      else readResultOf body len.toNat dl.toNat e.toNat w

/-- The WriteResult of a body whose lengths passed, with DL and E (R81, R165). -/
def writeResultOf (cfg : Cfg) (body : Bytes) (len dl e : Nat) (w : Warn) : Result :=
  .writeResult
    { tagCount := tagCount body
      pc := slice body 5 6
      epc := slice body 7 (6 + e)
      crc := slice body (7 + e) (8 + e)
      statusCategory := catalog cfg (byteAt body (7 + dl))
      statusCode := byteAt body (7 + dl)
      writeCount := byteAt body (8 + dl)
      addr := byteAt body 0
      cmd := byteAt body 1
      trailer := slice body (9 + dl) (len - 2)
      warn := w }

/-- The write layout (R163 to R165). E is computed on integers (R164). -/
def decodeWriteBody (cfg : Cfg) (len : Byte) (body : Bytes) (w : Warn) : Result :=
  if len.toNat < 6 then malformed len none none body
  else
    let dl := byteAt body 4
    if len.toNat < 10 + dl.toNat then malformed len (some dl) none body
    else
      let e : Int := (dl.toNat : Int) - 2
      if e < 0 then malformed len (some dl) none body
      else writeResultOf cfg body len.toNat dl.toNat e.toNat w

/-- The raw form, for every pending opcode other than 0x81 and 0x82 (R82, R166). -/
def decodeRawBody (len : Byte) (body : Bytes) (w : Warn) : Result :=
  .rawResponse (byteAt body 0) (byteAt body 1) (slice body 2 (len.toNat - 2)) w

/-- Layout selection by the pending opcode, for L ≥ 3 (R156, R157). -/
def decodeLayout (cfg : Cfg) (pendOp len : Byte) (body : Bytes) (w : Warn) : Result :=
  if len.toNat = Config.errorStatusLen then decodeErrorBody cfg body w
  else if pendOp = Config.opRead then decodeReadBody len body w
  else if pendOp = Config.opWrite then decodeWriteBody cfg len body w
  else decodeRawBody len body w

/-- `decode_body(pend_op, L, body)`, "the whole function in check order" (R174). -/
def decodeBody (cfg : Cfg) (pendOp len : Byte) (body : Bytes) : Result :=
  if len.toNat < 3 then malformed len none none body
  else if checksumFails len body && decide (cfg.checksumPolicy = .reject) then
    .protocolError (.checksumMismatch (expectedChecksum len body) (receivedChecksum len body))
  else decodeLayout cfg pendOp len body (responseWarnings pendOp len body)

end Sys2Proof.Machine
end

