-- ==== Sys2Proof/Machine/Receive.lean ====
section
/-! DEFINITION. The steps of the exchange state machine that the host and the transport drive: OPEN and CLOSE
(R191, R192), the transport's answer to the write (R195), and the receive events (R151 to R153, R197, R199, R200). -/

namespace Sys2Proof.Machine

/-- `OPEN(port, baud_rate, timeout)` with the answer of the transport's `open` (R190, R191).
A failed open leaves `link` unchanged. -/
def State.openLink (s : State) (port : Text) (baudRate timeout : Nat) (answer : OpenAnswer) : State :=
  let called := s.accept.call (.openCall port baudRate timeout)
  match answer with
  | .openOk => { called with link := .opened }.complete .done
  | .openFail => called.complete (.transportError (.disconnected .opening))

/-- `CLOSE` (R190, R192). -/
def State.closeLink (s : State) : State :=
  { s.accept.call .closeCall with link := .closed }.complete .done

/-- Phase Transmit: the whole frame goes to the transport's `write` in one call, which answers (R195). -/
def State.transmit (s : State) (answer : WriteAnswer) : State :=
  let called := s.call (.writeCall s.pendFrame)
  match answer with
  | .writeOk => { called with phase := .rxHeader }
  | .writeFail => called.complete (.transportError (.disconnected .transmitting))

/-- How many bytes of this response have been consumed (R197). -/
def State.received (s : State) : Nat :=
  match s.phase with
  | .rxLength => 1
  | .rxBody => 2 + s.rxBody.length
  | _ => 0

/-- Phase RxHeader, event `Byte(b)` (R151). -/
def State.headerByte (s : State) (b : Byte) : State :=
  if b = Config.header then { s with phase := .rxLength }
  else s.complete (.protocolError (.badHeader b))

/-- `rx_len <- b; rx_body <- []` (R152). -/
def State.startBody (s : State) (b : Byte) : State := { s with rxLen := b, rxBody := [] }

/-- Completion with `decode_body(pend_op, rx_len, rx_body)` (R152, R153). -/
def State.finish (s : State) : State := s.complete (decodeBody s.cfg s.pendOp s.rxLen s.rxBody)

/-- Phase RxLength, event `Byte(b)` (R152). -/
def State.lengthByte (s : State) (b : Byte) : State :=
  if b = 0#8 then (s.startBody b).finish
  else { s.startBody b with phase := .rxBody }

/-- `rx_body <- rx_body ++ [b]` (R153). -/
def State.appendBody (s : State) (b : Byte) : State := { s with rxBody := s.rxBody ++ [b] }

/-- Phase RxBody, event `Byte(b)` (R153): all L bytes are read before any is judged. -/
def State.bodyByte (s : State) (b : Byte) : State :=
  if (s.appendBody b).rxBody.length = s.rxLen.toNat then (s.appendBody b).finish
  else s.appendBody b

/-- A byte in a receive phase (R200); in Idle and Transmit the engine reads nothing (R196). -/
def State.byteEvent (s : State) (b : Byte) : State :=
  match s.phase with
  | .idle => s
  | .transmit => s
  | .rxHeader => s.headerByte b
  | .rxLength => s.lengthByte b
  | .rxBody => s.bodyByte b

/-- One byte-read step in a receive phase: a `read(handle, 1)` bounded by `BYTE_TIMEOUT`, and its event
(R196 to R200). `link` is kept on every error (R199). -/
def State.receive (s : State) (event : RxEvent) : State :=
  let called := s.call (.readCall 1 s.cfg.byteTimeout)
  match event with
  | .byte b => called.byteEvent b
  | .timeout => called.complete (.transportError (.timeout s.phase s.received))
  | .disconnected => called.complete (.transportError (.disconnected (.receiving s.phase s.received)))

end Sys2Proof.Machine
end

