-- ==== Sys2Proof/Machine/Sequencer.lean ====
section
/-! DEFINITION. The exchange sequencer (43_exchange.md): which port a phase listens to (R219) and what one step takes
from it. Where the environment supplies nothing, the engine rests in its phase (I16, I17; notes/assumptions/5.md). -/

namespace Sys2Proof.Machine

/-- Phase Idle: the next request of the host, if there is one (R190). OPEN is accepted in the step in which the
transport answers it (R202). -/
def idleStep (s : State) : Host.Outcome State Fault Refusal :=
  match s.hostRequests with
  | [] => .next s
  | .openLink port baud limit :: rest =>
    match s.openAnswers with
    | [] => .next s
    | answer :: later =>
      .next (((s.takeRequest rest).takeOpenAnswer later).openLink port baud limit answer)
  | .closeLink :: rest => .next ((s.takeRequest rest).closeLink)
  | .exchange cmd broadcast confirm :: rest => exec cmd (s.present rest broadcast confirm)

/-- Phase Transmit: the answer to the write, once it is there (R195). -/
def transmitStep (s : State) : Host.Outcome State Fault Refusal :=
  match s.writeAnswers with
  | [] => .next s
  | answer :: later => .next ((s.takeWriteAnswer later).transmit answer)

/-- A receive phase: exactly one event, once it is there (R196).
The event is taken off the RX stream, and the rest stays (R58, R204). -/
def receiveStep (s : State) : Host.Outcome State Fault Refusal :=
  match s.rxStream with
  | [] => .next s
  | event :: later => .next ((s.takeEvent later).receive event)

/-- One step of the engine while its reset input is not asserted. -/
def engineStep (s : State) : Host.Outcome State Fault Refusal :=
  match s.phase with
  | .idle => idleStep s
  | .transmit => transmitStep s
  | .rxHeader => receiveStep s
  | .rxLength => receiveStep s
  | .rxBody => receiveStep s

/-- The reset input is asserted in this step (R240). -/
def State.resetAsserted (s : State) : Bool := s.resetInput.headD false

/-- The sample of the reset input taken in this step is gone. -/
def State.sampleReset (s : State) : State := { s with resetInput := s.resetInput.tail }

/-- One step: engine reset where the input is asserted, in any phase (R240), and otherwise the engine's own step. -/
def sequencerStep (s : State) : Host.Outcome State Fault Refusal :=
  if s.resetAsserted then .next s.sampleReset.engineReset else engineStep s.sampleReset

/-- The state in which the next step runs a command: an idle engine with an open link, its reset input not asserted,
and EXCHANGE(i, broadcast = false, confirm = true) first at the request port, the request whose frame carries exactly
the payload of i (R128, R193; notes/assumptions/9.md). -/
def State.offering (s : State) (i : Instr) : State :=
  { s with
    phase := .idle
    link := .opened
    resetInput := false :: s.resetInput
    hostRequests := .exchange i false true :: s.hostRequests }

/-- The same for a word numbered as spec/opcode_table.json numbers it; a word that is no command leaves the state. -/
def State.offeringWord (s : State) (nbits w : Nat) : State :=
  match decodeTableWord nbits w with
  | some i => s.offering i
  | none => s

end Sys2Proof.Machine
end

