-- ==== Sys2Proof/Machine/Step.lean ====
section
/-! DEFINITION. One step of the machine, and the state in which the next step runs a given word. -/

namespace Sys2Proof.Machine

/-- One step of the machine. -/
def step (s : State) : Host.Outcome State Fault Refusal := sequencerStep s

/-- `s` with the command of a word placed where the next step takes its command from: first at the request port. -/
def State.withFetchWord (s : State) (nbits w : Nat) : State := s.offeringWord nbits w

end Sys2Proof.Machine
end

