-- ==== Sys2Proof/Machine/Rendering.lean ====
section
/-! DEFINITION. Display forms (40_frame_codec.md R107; 42_response_decoder.md R173). No rule of the engine reads them. -/

namespace Sys2Proof.Machine

/-- An uppercase hexadecimal digit. -/
def hexDigit (n : Nat) : Char := hexDigits.getD n '0'

/-- Two uppercase hexadecimal digits (R107). -/
def renderByte (b : Byte) : Text := [hexDigit (b.toNat / 16), hexDigit (b.toNat % 16)]

/-- `render_hex(s)`: bytes separated by one space, no prefix, no trailing space (R107). -/
def renderHex : Bytes → Text
  | [] => []
  | [b] => renderByte b
  | b :: c :: rest => renderByte b ++ ' ' :: renderHex (c :: rest)

/-- The name of a named category (R170, R173). -/
def NamedCategory.render : NamedCategory → Text
  | .success => "Success".toList
  | .commandFail => "CommandFail".toList
  | .tagInventoryError => "TagInventoryError".toList
  | .tagReadError => "TagReadError".toList
  | .tagWriteError => "TagWriteError".toList
  | .tagLockError => "TagLockError".toList
  | .tagKillError => "TagKillError".toList
  | .noTagError => "NoTagError".toList
  | .bufferEmpty => "BufferEmpty".toList
  | .paramInvalid => "ParamInvalid".toList
  | .wordCountTooLong => "WordCountTooLong".toList
  | .membankOutOfRange => "MembankOutOfRange".toList
  | .lockOutOfRange => "LockOutOfRange".toList

/-- Rendering a category (R173): its name, or `Unhandled(0x` with the raw code as two hex digits and `)`. -/
def Category.render : Category → Text
  | .named n => n.render
  | .unhandled c => "Unhandled(0x".toList ++ renderByte c ++ [')']

end Sys2Proof.Machine
end

