-- ==== Sys2Proof/Safety.lean ====
section
/-! DEFINITION. The terms the statements use: the invariant of a safe run, reachability from reset under any
environment, what a launch and a completion change, what of a state is observable, and which results a command may have. -/

namespace Sys2Proof.Machine

/-- A frame the Command Encoder and the Frame Codec produce together under a configuration: header to checksum of a
well-formed command's payload (R70, R74, R102). -/
def IsCommandFrame (cfg : Cfg) (op : Byte) (frame : Bytes) : Prop :=
  ∃ i broadcast, Instr.WellFormed cfg i ∧ i.opcode = op ∧ buildFrame (encode i) broadcast = .ok frame

/-- The three invariants of R36, word for word. -/
structure State.SpecInv (s : State) : Prop where
  body_fits : s.phase = .rxBody → s.rxBody.length ≤ s.rxLen.toNat
  busy_result : s.phase ≠ .idle → s.resultValid = false
  busy_warn : s.phase ≠ .idle → s.warn = 0#2

/-- The invariant every step keeps. It implies R36 (with `<` for `≤`, since the last body byte completes, R153), the
widths of R7 and R24, and what R22 and R194 give an exchange in progress: an open link and a command frame. -/
structure State.Inv (s : State) : Prop where
  body_open : s.phase = .rxBody → s.rxBody.length < s.rxLen.toNat
  busy_result : s.phase ≠ .idle → s.resultValid = false
  busy_warn : s.phase ≠ .idle → s.warn = 0#2
  busy_link : s.phase ≠ .idle → s.link = .opened
  busy_frame : s.phase ≠ .idle → IsCommandFrame s.cfg s.pendOp s.pendFrame
  frame_bound : s.pendFrame.length ≤ Config.maxFrame
  body_bound : s.rxBody.length ≤ Config.maxBody
  result_warn : s.resultValid = true → s.warn = s.result.warnings.getD 0#2

/-- Every frame handed to the transport so far is a command frame. -/
def State.SentCommandFrames (s : State) : Prop :=
  ∀ frame, .writeCall frame ∈ s.calls → ∃ op, IsCommandFrame s.cfg op frame

/-- What an environment chooses for a run: a configuration, and what the host and the transport will supply. -/
structure Environment where
  cfg : Cfg
  hostRequests : List Request
  resetInput : List Bool
  openAnswers : List OpenAnswer
  writeAnswers : List WriteAnswer
  rxStream : List RxEvent
  deriving DecidableEq, Repr

/-- The reset state in an environment. -/
def State.inEnvironment (env : Environment) : State :=
  { State.reset with
    cfg := env.cfg
    hostRequests := env.hostRequests
    resetInput := env.resetInput
    openAnswers := env.openAnswers
    writeAnswers := env.writeAnswers
    rxStream := env.rxStream }

/-- A state some run from reset reaches, whatever the configuration, the host, the transport and the reader do. -/
def State.Reachable (s : State) : Prop := ∃ env n, core.run n (State.inEnvironment env) = .next s

/-- `t` is `s` completed with the result `r` and the warning set `w` (R203): result recorded and valid, phase Idle,
`warn` as given, and every other element as in `s`, but for those R203 leaves unspecified (and the draw counter). -/
def CompletedFrom (s t : State) (r : Result) (w : Warn) : Prop :=
  ∃ op frame len body n,
    t = { s with
      result := r, resultValid := true, phase := .idle, warn := w,
      pendOp := op, pendFrame := frame, rxLen := len, rxBody := body, draws := n }

/-- The frame of a payload, written out from R70 to R73: header, length n + 2, address, payload, checksum of all of these. -/
def specFrame (payload : Bytes) (broadcast : Bool) : Bytes :=
  let covered := [0xA0#8, BitVec.ofNat 8 (payload.length + 2), if broadcast then 0xFF#8 else 0x01#8] ++ payload
  covered ++ [checksum covered]

/-- `t` is `s` after an EXCHANGE was accepted and went to Transmit with a payload (R190, R194): `result_valid` false,
`warn` 0, the opcode and the frame of the payload latched, and every other element as in `s` (nothing sent, nothing
read), but for `result`, now unspecified (I1), and the draw counter. -/
def LaunchedFrom (s t : State) (op : Byte) (payload : Bytes) : Prop :=
  ∃ r n,
    t = { s with
      phase := .transmit, resultValid := false, warn := 0#2, pendOp := op,
      pendFrame := specFrame payload s.reqBroadcast,
      result := r, draws := n }

/-- The membank byte is the code of the bank (R76). -/
def NamesBank (cfg : Cfg) (m : Byte) (bank : Membank) : Prop :=
  (m = 0#8 ∧ cfg.membankCodes.code0 = bank) ∨ (m = 1#8 ∧ cfg.membankCodes.code1 = bank) ∨
  (m = 2#8 ∧ cfg.membankCodes.code2 = bank) ∨ (m = 3#8 ∧ cfg.membankCodes.code3 = bank)

/-- The membank byte names a bank and the word range stays under its ceiling, by the table of R122 (R121, R123). -/
def WithinCeiling (cfg : Cfg) (m a c : Byte) : Prop :=
  m.toNat ≤ 3 ∧
  (NamesBank cfg m .reserved → a.toNat + c.toNat ≤ cfg.reservedWordLimit) ∧
  (NamesBank cfg m .epc → a.toNat + c.toNat ≤ 8) ∧
  (NamesBank cfg m .tid → a.toNat + c.toNat ≤ 12) ∧
  (NamesBank cfg m .user → a.toNat + c.toNat ≤ 32)

/-- A WriteTag to the PC/CRC region: EPC bank, word address below 2 (R127). -/
def TouchesPcCrc (cfg : Cfg) (m a : Byte) : Prop := NamesBank cfg m .epc ∧ a.toNat < 2

/-- The received body verifies, or the policy lets decoding go on (R155). -/
def ChecksumPasses (cfg : Cfg) (len : Byte) (body : Bytes) : Prop :=
  checksum (0xA0#8 :: len :: body.dropLast) = body.getLastD 0#8 ∨ cfg.checksumPolicy = .warnOnly

/-- The warning set of a response (R155, R167), from the received bytes. -/
def expectedWarnings (pendOp len : Byte) (body : Bytes) : Warn :=
  (if checksum (0xA0#8 :: len :: body.dropLast) = body.getLastD 0#8 then 0#2 else 1#2) |||
  (if body.getD 1 0#8 = pendOp then 0#2 else 2#2)

/-- What of two states an observer can tell apart (I1, R24, R25, R28): everything but the elements the spec calls
unspecified in the phase at hand, and the model's draw counter. -/
structure SameVisible (s t : State) : Prop where
  hostRequests : t.hostRequests = s.hostRequests
  resetInput : t.resetInput = s.resetInput
  openAnswers : t.openAnswers = s.openAnswers
  writeAnswers : t.writeAnswers = s.writeAnswers
  rxStream : t.rxStream = s.rxStream
  reqBroadcast : t.reqBroadcast = s.reqBroadcast
  reqConfirm : t.reqConfirm = s.reqConfirm
  cfg : t.cfg = s.cfg
  link : t.link = s.link
  phase : t.phase = s.phase
  warn : t.warn = s.warn
  resultValid : t.resultValid = s.resultValid
  calls : t.calls = s.calls
  result : s.resultValid = true → t.result = s.result
  pendOp : s.phase ≠ .idle → t.pendOp = s.pendOp
  pendFrame : s.phase ≠ .idle → t.pendFrame = s.pendFrame
  rxLen : s.phase = .rxBody → t.rxLen = s.rxLen
  rxBody : s.phase = .rxBody → t.rxBody = s.rxBody

/-- The phase is one of the three receive phases (R23, R196). -/
def Phase.receives : Phase → Bool
  | .rxHeader => true
  | .rxLength => true
  | .rxBody => true
  | _ => false

/-- The ValidationError reasons the table of R201 gives a command; FrameTooLong is a WriteTag's (R201, R138). -/
def possibleReason (i : Instr) (reason : ValidationReason) : Bool :=
  match i, reason with
  | .read _ _ _, .membankRange => true
  | .read _ _ _, .wordLimit => true
  | .write _ _ _ _ _, .membankRange => true
  | .write _ _ _ _ _, .wordLimit => true
  | .write _ _ _ _ _, .passwordLength => true
  | .write _ _ _ _ _, .dataLength => true
  | .write _ _ _ _ _, .frameTooLong => true
  | .buzzer _, .modeRange => true
  | _, _ => false

/-- The results the table of R201 gives EXCHANGE of a command. -/
def possibleResult (i : Instr) (r : Result) : Bool :=
  match r with
  | .done => false
  | .errorResponse _ _ _ _ _ => true
  | .protocolError _ => true
  | .transportError _ => true
  | .validationError reason => possibleReason i reason
  | .destructiveWriteWarning _ _ _ => i.opcode == Config.opWrite
  | .readResult _ => i.opcode == Config.opRead
  | .writeResult _ => i.opcode == Config.opWrite
  | .rawResponse _ _ _ _ => i.opcode != Config.opRead && i.opcode != Config.opWrite

/-- The body of a read response, laid out by the table of R80 from its fields. -/
def readBody (addr cmd high low dl : Byte) (pc epc crc data : Bytes) (rl : Byte) (trailer : Bytes) (sum : Byte) : Bytes :=
  [addr, cmd, high, low, dl] ++ pc ++ epc ++ crc ++ data ++ [rl] ++ trailer ++ [sum]

/-- The body of a write response, laid out by the table of R81 from its fields. -/
def writeBody (addr cmd high low dl : Byte) (pc epc crc : Bytes) (status count : Byte) (trailer : Bytes) (sum : Byte) :
    Bytes :=
  [addr, cmd, high, low, dl] ++ pc ++ epc ++ crc ++ [status, count] ++ trailer ++ [sum]

end Sys2Proof.Machine
end

