-- ==== Sys2Proof/Certificates/Slice0/Obligations.lean ====
section
/-! DEFINITION. The statements about the Reader Protocol Engine. Each docstring names the rules it formalises. Where a
rule carries the spec's own decision (a row D<n> of 92_eei_decisions.md) or is marked derived, the statement is of basis
'derived' in OBLIGATIONS.json. No statement rests on the value of a free value (notes/assumptions/3.md). -/

open Sys2Proof Sys2Proof.Machine

/-! ### Frame Codec -/

/-- R100: the checksum negates the byte sum mod 256, with the corner cases and the example of the rule. -/
def Obligations.ChecksumNegatesByteSum : Prop :=
  (∀ s : Bytes, (checksum s).toNat = (256 - (s.map BitVec.toNat).sum % 256) % 256 ∧
    (checksum s = 0#8 ↔ (s.map BitVec.toNat).sum % 256 = 0)) ∧
  checksum [] = 0#8 ∧ checksum [0x00#8] = 0#8 ∧ checksum [0x80#8, 0x80#8] = 0#8 ∧
  checksum [0x01#8] = 0xFF#8 ∧ checksum [0xFF#8] = 0x01#8 ∧
  checksum [0xA0#8, 0x03#8, 0x01#8, 0x70#8] = 0xEC#8

/-- R101 (derived in the spec): the four laws of the checksum. -/
def Obligations.ChecksumLaws : Prop :=
  ∀ s t : Bytes,
    ((s.map BitVec.toNat).sum + (checksum s).toNat) % 256 = 0 ∧
    (∀ b : Byte, checksum s = b ↔ ((s.map BitVec.toNat).sum + b.toNat) % 256 = 0) ∧
    (checksum (s ++ t)).toNat = ((checksum s).toNat + (checksum t).toNat) % 256 ∧
    (s.Perm t → checksum s = checksum t)

/-- R71 and R73: in a frame the engine builds, the length byte counts address, payload and checksum, is at least 2, and the
last byte is the checksum of all the others, so that the whole frame sums to 0; a longer payload is not framed. -/
def Obligations.FrameLengthAndChecksumBytes : Prop :=
  ∀ (p : Bytes) (broadcast : Bool) (f : Bytes), buildFrame p broadcast = .ok f →
    p.length ≤ 253 ∧ f.length = 4 + p.length ∧
    (∃ len : Byte, f[1]? = some len ∧ len.toNat = p.length + 2 ∧ 2 ≤ len.toNat) ∧
    f[3 + p.length]? = some (checksum (f.take (3 + p.length))) ∧
    (f.map BitVec.toNat).sum % 256 = 0

/-- R70, R72, R102, R103: `build_frame` frames every payload of at most 253 bytes, byte by byte as the table of R70 says, and
refuses a longer one with FrameTooLong. -/
def Obligations.BuildFrameLayout : Prop :=
  ∀ (p : Bytes) (broadcast : Bool),
    (p.length ≤ 253 → ∃ f, buildFrame p broadcast = .ok f ∧
      f[0]? = some 0xA0#8 ∧ f[1]? = some (BitVec.ofNat 8 (p.length + 2)) ∧
      f[2]? = some (if broadcast then 0xFF#8 else 0x01#8) ∧
      (∀ k, k < p.length → f[3 + k]? = p[k]?) ∧ f.length = 4 + p.length) ∧
    (253 < p.length → buildFrame p broadcast = .error .frameTooLong)

/-- R104, R105: a byte sequence verifies exactly when it is not empty and its bytes sum to 0 mod 256. -/
def Obligations.VerifyFrameIffSumIsZero : Prop :=
  ∀ f : Bytes, verifyFrame f = true ↔ f ≠ [] ∧ (f.map BitVec.toNat).sum % 256 = 0

/-- R106: what `build_frame` builds verifies. -/
def Obligations.BuiltFrameVerifies : Prop :=
  ∀ (p : Bytes) (broadcast : Bool), p.length ≤ 253 →
    ∃ f, buildFrame p broadcast = .ok f ∧ verifyFrame f = true

/-! ### Encodings -/

/-- R74, R84: every command with an encoding is read back from its payload, every operand at every value the encoding
admits, and the bytes that follow it are left alone. The decoder is the model's own (notes/assumptions/8.md). -/
def Obligations.DecodeInvertsEncode : Prop :=
  ∀ (i : Instr) (rest : Bytes), i.encodable = true → decode (encode i ++ rest) = .ok (i, rest)

/-- R74, R84, R86: what the decoder reads is an encodable command, whose payload stands at the front of the bytes: no byte is
dropped or read twice, and no reserved encoding falls through to a neighbour. -/
def Obligations.DecodeReadsOnlyEncodings : Prop :=
  ∀ (s rest : Bytes) (i : Instr), decode s = .ok (i, rest) → i.encodable = true ∧ s = encode i ++ rest

/-- R70 to R74: a whole sent frame is read back, address byte included. The frame decoder is the model's own
(notes/assumptions/8.md). -/
def Obligations.DecodeFrameInvertsBuild : Prop :=
  ∀ (i : Instr) (broadcast : Bool) (f : Bytes), i.encodable = true → buildFrame (encode i) broadcast = .ok f →
    decodeFrame f = .ok (broadcast, i)

/-- R84 in the terms of the model's decoder (DESIGN CHOICE, notes/assumptions/8.md; the engine itself never decodes a
command): where a command is decoded, the first payload byte, all eight bits of it, is the opcode R84 maps to it; and the
decoder's own refusal `unknownOpcode` is its answer exactly for the bytes outside the map (R85). -/
def Obligations.FirstPayloadByteSelectsCommand : Prop :=
  ∀ (op : Byte) (rest : Bytes),
    (∀ i tail, decode (op :: rest) = .ok (i, tail) →
      match i with
      | .getid => op = 0x68#8
      | .reset => op = 0x70#8
      | .buzzer _ => op = 0x7A#8
      | .read _ _ _ => op = 0x81#8
      | .write _ _ _ _ _ => op = 0x82#8
      | .inventory _ => op = 0x89#8) ∧
    (decode (op :: rest) = .error (.unknownOpcode op) ↔
      op ∉ [0x68#8, 0x70#8, 0x7A#8, 0x81#8, 0x82#8, 0x89#8])

/-- Frames written out in 95_test_vectors.md decode to the commands they stand for. The frame decoder is the model's own
(notes/assumptions/8.md). -/
def Obligations.SpecFramesDecode : Prop :=
  decodeFrame [0xA0#8, 0x03#8, 0x01#8, 0x70#8, 0xEC#8] = .ok (false, .reset) ∧
  decodeFrame [0xA0#8, 0x03#8, 0xFF#8, 0x68#8, 0xF6#8] = .ok (true, .getid) ∧
  decodeFrame [0xA0#8, 0x04#8, 0x01#8, 0x89#8, 0x01#8, 0xD1#8] = .ok (false, .inventory 1#8) ∧
  decodeFrame [0xA0#8, 0x04#8, 0x01#8, 0x7A#8, 0x02#8, 0xDF#8] = .ok (false, .buzzer 2#8) ∧
  decodeFrame [0xA0#8, 0x06#8, 0x01#8, 0x81#8, 0x02#8, 0x0A#8, 0x02#8, 0xCA#8] = .ok (false, .read 2#8 10#8 2#8) ∧
  decodeFrame [0xA0#8, 0x0E#8, 0x01#8, 0x82#8, 0x11#8, 0x22#8, 0x33#8, 0x44#8, 0x01#8, 0x02#8, 0x02#8,
      0xAA#8, 0xBB#8, 0xCC#8, 0xDD#8, 0x12#8] =
    .ok (false, .write 1#8 [0x11#8, 0x22#8, 0x33#8, 0x44#8] 2#8 2#8 [0xAA#8, 0xBB#8, 0xCC#8, 0xDD#8])

/-! ### Command Encoder -/

/-- R126, R129, R130 to R136: `encode` answers a payload exactly for a well-formed command (and a confirmed one, where it
needs confirmation), and the payload is the command's encoding by the table of R74. -/
def Obligations.EncoderAnswersTheEncoding : Prop :=
  ∀ (cfg : Cfg) (i : Instr) (confirm : Bool) (p : Bytes),
    encodeCommand cfg i confirm = .ok p ↔
      Instr.WellFormed cfg i ∧ (i.destructive cfg = true → confirm = true) ∧ p = encode i

/-- R138: the length bound of every payload the encoder answers, and its first byte. -/
def Obligations.EncodedPayloadBound : Prop :=
  ∀ (cfg : Cfg) (i : Instr) (confirm : Bool) (p : Bytes), encodeCommand cfg i confirm = .ok p →
    p.length ≤ 8 + 2 * max 32 cfg.reservedWordLimit ∧ p.head? = some i.opcode

/-- R131: the three outcomes of `encode_read`, with the corner cases and examples of the rule, which are in the codes of
R76 (TID 2, EPC 1). -/
def Obligations.EncodeReadOutcomes : Prop :=
  (∀ (cfg : Cfg) (m a c : Byte),
    (3 < m.toNat → encodeRead cfg m a c = .err .membankRange) ∧
    (m.toNat ≤ 3 → ¬ WithinCeiling cfg m a c → encodeRead cfg m a c = .err .wordLimit) ∧
    (WithinCeiling cfg m a c → encodeRead cfg m a c = .ok [0x81#8, m, a, c])) ∧
  (∀ cfg : Cfg, cfg.membankCodes = Config.membankCodes →
    encodeRead cfg 2#8 10#8 2#8 = .ok [0x81#8, 0x02#8, 0x0A#8, 0x02#8] ∧
    buildFrame [0x81#8, 0x02#8, 0x0A#8, 0x02#8] false =
      .ok [0xA0#8, 0x06#8, 0x01#8, 0x81#8, 0x02#8, 0x0A#8, 0x02#8, 0xCA#8] ∧
    encodeRead cfg 2#8 10#8 3#8 = .err .wordLimit ∧
    encodeRead cfg 2#8 255#8 255#8 = .err .wordLimit ∧
    encodeRead cfg 1#8 0#8 2#8 = .ok [0x81#8, 1#8, 0#8, 2#8] ∧
    encodeRead cfg 2#8 0#8 0#8 = .ok [0x81#8, 2#8, 0#8, 0#8])

/-- R127: a WriteTag that passed the four checks is flagged destructive exactly in EPC words 0 and 1, whatever its word count,
and a ReadTag never is. With the codes of R76 the EPC bank is membank 1, as the rule writes it; with other codes it is the
code that names EPC. -/
def Obligations.DestructiveConditionIsEpcBelowWordTwo : Prop :=
  ∀ (cfg : Cfg) (m a c : Byte) (pw d : Bytes),
    (WithinCeiling cfg m a c → pw.length = 4 → d.length = 2 * c.toNat →
      (encodeWrite cfg d m pw a c false = .warn m a c ↔ TouchesPcCrc cfg m a) ∧
      (cfg.membankCodes = Config.membankCodes →
        (encodeWrite cfg d m pw a c false = .warn m a c ↔ m = 1#8 ∧ a.toNat < 2))) ∧
    (∀ m' a' c', encodeRead cfg m a c ≠ .warn m' a' c')

/-! ### The six commands: where they run, where they are turned away, and their frames -/

/-- R130, R135, R193, R194: Reset and GetReaderId, offered to an idle engine with an open link, go to Transmit with their
frames; everything else is kept (`LaunchedFrom`), but for `result`, a free value from acceptance on (notes/assumptions/4.md). -/
def Obligations.ResetAndGetIdLaunch : Prop :=
  ∀ s : State, s.phase = .idle → s.link = .opened →
    (∃ t, exec .reset s = .next t ∧ LaunchedFrom s t 0x70#8 [0x70#8]) ∧
    (∃ t, exec .getid s = .next t ∧ LaunchedFrom s t 0x68#8 [0x68#8])

/-- R133, R193, R194: RealtimeInventory goes to Transmit for every repeat byte. -/
def Obligations.InventoryLaunches : Prop :=
  ∀ (s : State) (r : Byte), s.phase = .idle → s.link = .opened →
    ∃ t, exec (.inventory r) s = .next t ∧ LaunchedFrom s t 0x89#8 [0x89#8, r]

/-- R134, R136, R193, R194: SetBuzzer goes to Transmit for modes 0, 1 and 2. -/
def Obligations.BuzzerLaunches : Prop :=
  ∀ (s : State) (m : Byte), s.phase = .idle → s.link = .opened → m.toNat ≤ 2 →
    ∃ t, exec (.buzzer m) s = .next t ∧ LaunchedFrom s t 0x7A#8 [0x7A#8, m]

/-- R131, R193, R194: ReadTag goes to Transmit for every word range under the bank's ceiling, word_cnt 0 included (R137). -/
def Obligations.ReadLaunches : Prop :=
  ∀ (s : State) (m a c : Byte), s.phase = .idle → s.link = .opened → WithinCeiling s.cfg m a c →
    ∃ t, exec (.read m a c) s = .next t ∧ LaunchedFrom s t 0x81#8 [0x81#8, m, a, c]

/-- R132, R128, R193, R194: WriteTag goes to Transmit when its operands pass the checks, its payload fits a frame, and it
does not touch the PC/CRC region or is confirmed. -/
def Obligations.WriteLaunches : Prop :=
  ∀ (s : State) (m a c : Byte) (pw d : Bytes), s.phase = .idle → s.link = .opened →
    WithinCeiling s.cfg m a c → pw.length = 4 → d.length = 2 * c.toNat → 8 + 2 * c.toNat ≤ 253 →
    (TouchesPcCrc s.cfg m a → s.reqConfirm = true) →
    ∃ t, exec (.write m pw a c d) s = .next t ∧
      LaunchedFrom s t 0x82#8 ([0x82#8] ++ pw ++ [m, a, c] ++ d)

/-- R128, R194: a destructive WriteTag without confirmation completes with the warning; nothing is sent. -/
def Obligations.UnconfirmedDestructiveWriteWarns : Prop :=
  ∀ (s : State) (m a c : Byte) (pw d : Bytes), s.phase = .idle → s.link = .opened →
    WithinCeiling s.cfg m a c → pw.length = 4 → d.length = 2 * c.toNat →
    TouchesPcCrc s.cfg m a → s.reqConfirm = false →
    ∃ t, exec (.write m pw a c d) s = .next t ∧ CompletedFrom s t (.destructiveWriteWarning m a c) 0#2

/-- R121, R123 to R126, R136, R194: a command that fails a check completes at once with the first failing check's reason, in
the order membank, word limit, password length, data length; nothing is sent. -/
def Obligations.FailedCheckCompletesWithFirstReason : Prop :=
  ∀ (s : State) (m a c : Byte) (pw d : Bytes), s.phase = .idle → s.link = .opened →
    (3 < m.toNat →
      (∃ t, exec (.read m a c) s = .next t ∧ CompletedFrom s t (.validationError .membankRange) 0#2) ∧
      (∃ t, exec (.write m pw a c d) s = .next t ∧ CompletedFrom s t (.validationError .membankRange) 0#2)) ∧
    (m.toNat ≤ 3 → ¬ WithinCeiling s.cfg m a c →
      (∃ t, exec (.read m a c) s = .next t ∧ CompletedFrom s t (.validationError .wordLimit) 0#2) ∧
      (∃ t, exec (.write m pw a c d) s = .next t ∧ CompletedFrom s t (.validationError .wordLimit) 0#2)) ∧
    (WithinCeiling s.cfg m a c → pw.length ≠ 4 →
      ∃ t, exec (.write m pw a c d) s = .next t ∧ CompletedFrom s t (.validationError .passwordLength) 0#2) ∧
    (WithinCeiling s.cfg m a c → pw.length = 4 → d.length ≠ 2 * c.toNat →
      ∃ t, exec (.write m pw a c d) s = .next t ∧ CompletedFrom s t (.validationError .dataLength) 0#2) ∧
    (2 < m.toNat →
      ∃ t, exec (.buzzer m) s = .next t ∧ CompletedFrom s t (.validationError .modeRange) 0#2)

/-- R103, R138: a WriteTag whose payload passes 253 bytes, which only a Reserved bank write under RESERVED_WORD_LIMIT > 122 can
have, completes with FrameTooLong; nothing is sent. -/
def Obligations.OverlongWriteIsNotFramed : Prop :=
  ∀ (s : State) (m a c : Byte) (pw d : Bytes), s.phase = .idle → s.link = .opened →
    WithinCeiling s.cfg m a c → pw.length = 4 → d.length = 2 * c.toNat → 253 < 8 + 2 * c.toNat →
    NamesBank s.cfg m .reserved ∧ 122 < s.cfg.reservedWordLimit ∧
    ∃ t, exec (.write m pw a c d) s = .next t ∧ CompletedFrom s t (.validationError .frameTooLong) 0#2

/-- R193, R218: on a closed link every command completes with NotOpen before it is encoded, whatever its operands. -/
def Obligations.ClosedLinkGivesNotOpen : Prop :=
  ∀ (i : Instr) (s : State), s.phase = .idle → s.link = .closed →
    ∃ t, exec i s = .next t ∧ CompletedFrom s t (.transportError .notOpen) 0#2

/-- R205: while an exchange is in progress no request is accepted, and the request stays with the host. That offering a
command then is a step of `exec` that changes nothing is the model's choice (notes/assumptions/17.md; I16 calls the waiting
request stuck). -/
def Obligations.BusyEngineMakesCommandsWait : Prop :=
  ∀ (i : Instr) (s : State), s.phase ≠ .idle →
    exec i s = .next s ∧
    ∀ t, step s = .next t → t.hostRequests = s.hostRequests ∧ t.openAnswers = s.openAnswers

/-- R194, R62, R21: whatever the command, its operands and its outcome, offering it makes no transport call, reads nothing, and
leaves `link`, the configuration, `rx_len` and `rx_body` of an exchange in progress, and every input as they are. Outside Idle the state is unchanged, the
model's choice for a waiting request (notes/assumptions/17.md). -/
def Obligations.OfferingACommandDoesNoIO : Prop :=
  ∀ (i : Instr) (s t : State), exec i s = .next t →
    t.calls = s.calls ∧ t.rxStream = s.rxStream ∧ t.writeAnswers = s.writeAnswers ∧ t.openAnswers = s.openAnswers ∧
    t.hostRequests = s.hostRequests ∧ t.resetInput = s.resetInput ∧ t.reqBroadcast = s.reqBroadcast ∧
    t.reqConfirm = s.reqConfirm ∧ t.link = s.link ∧ t.cfg = s.cfg ∧
    (t.phase ≠ .idle → t.rxLen = s.rxLen ∧ t.rxBody = s.rxBody) ∧
    (t.phase = .idle ∨ t.phase = .transmit ∨ t = s)

/-! ### The steps of the sequencer -/

/-- R190, R193: a step of the idle engine runs the command first at the request port, its options on the request lines. A
word the decoder reads as a command is run by the very next step of `withFetchWord` (notes/assumptions/9.md). -/
def Obligations.StepRunsTheOfferedCommand : Prop :=
  (∀ (s : State) (i : Instr) (broadcast confirm : Bool) (rest : List Request),
    s.phase = .idle → s.resetAsserted = false → s.hostRequests = .exchange i broadcast confirm :: rest →
    step s = exec i { s with
      resetInput := s.resetInput.tail, hostRequests := rest, reqBroadcast := broadcast, reqConfirm := confirm }) ∧
  (∀ (s : State) (nbits w : Nat) (i : Instr), decodeTableWord nbits w = some i →
    step (s.withFetchWord nbits w) =
      exec i { s with phase := .idle, link := .opened, reqBroadcast := false, reqConfirm := true })

/-- R191, R203: OPEN passes its three values to the transport and completes by the transport's answer; a failed open leaves
`link` as it was. That the call, its answer and the completion are one step is the model's choice
(notes/assumptions/14.md), and so is that the RX stream keeps its residue (notes/assumptions/10.md; I18 leaves the
transport's open open). -/
def Obligations.OpenCompletesByTransportAnswer : Prop :=
  ∀ (s : State) (port : Text) (baud limit : Nat) (rest : List Request) (answer : OpenAnswer) (later : List OpenAnswer),
    s.phase = .idle → s.resetAsserted = false → s.hostRequests = .openLink port baud limit :: rest →
    s.openAnswers = answer :: later →
    ∃ t, step s = .next t ∧
      CompletedFrom
        { s with
          resetInput := s.resetInput.tail, hostRequests := rest, openAnswers := later,
          calls := s.calls ++ [.openCall port baud limit],
          link := if answer = .openOk then .opened else s.link }
        t (if answer = .openOk then .done else .transportError (.disconnected .opening)) 0#2

/-- R192, R203: CLOSE closes the link and completes with Done, whether the link was open or not. That the RX
stream keeps its residue is the model's choice (notes/assumptions/10.md; I18 leaves a discard on close open). -/
def Obligations.CloseCompletesWithDone : Prop :=
  ∀ (s : State) (rest : List Request),
    s.phase = .idle → s.resetAsserted = false → s.hostRequests = .closeLink :: rest →
    ∃ t, step s = .next t ∧
      CompletedFrom
        { s with
          resetInput := s.resetInput.tail, hostRequests := rest, calls := s.calls ++ [.closeCall], link := .closed }
        t .done 0#2

/-- R195: Transmit hands the whole latched frame to the transport in one call, and goes on to RxHeader or completes with
Disconnected; no response byte is read. -/
def Obligations.TransmitHandsOverTheWholeFrame : Prop :=
  ∀ (s : State) (answer : WriteAnswer) (later : List WriteAnswer),
    s.phase = .transmit → s.resetAsserted = false → s.writeAnswers = answer :: later →
    ∃ t, step s = .next t ∧
      (answer = .writeOk → t = { s with
        resetInput := s.resetInput.tail, writeAnswers := later,
        calls := s.calls ++ [.writeCall s.pendFrame], phase := .rxHeader }) ∧
      (answer = .writeFail →
        CompletedFrom { s with
            resetInput := s.resetInput.tail, writeAnswers := later, calls := s.calls ++ [.writeCall s.pendFrame] }
          t (.transportError (.disconnected .transmitting)) s.warn)

/-- R151: a header byte equal to `HEADER` goes on to RxLength; any other completes with BadHeader carrying it, and no further
byte is read. -/
def Obligations.HeaderByteIsCheckedFirst : Prop :=
  ∀ (s : State) (b : Byte) (later : List RxEvent),
    s.phase = .rxHeader → s.resetAsserted = false → s.rxStream = .byte b :: later →
    ∃ t, step s = .next t ∧
      (b = 0xA0#8 → t = { s with
        resetInput := s.resetInput.tail, rxStream := later,
        calls := s.calls ++ [.readCall 1 s.cfg.byteTimeout], phase := .rxLength }) ∧
      (b ≠ 0xA0#8 →
        CompletedFrom { s with
            resetInput := s.resetInput.tail, rxStream := later,
            calls := s.calls ++ [.readCall 1 s.cfg.byteTimeout] }
          t (.protocolError (.badHeader b)) s.warn)

/-- R152: the length byte is stored, the body is emptied, a zero length is decoded at once (as malformed, R154), and any other
goes on to RxBody. -/
def Obligations.LengthByteOpensTheBody : Prop :=
  ∀ (s : State) (b : Byte) (later : List RxEvent),
    s.phase = .rxLength → s.resetAsserted = false → s.rxStream = .byte b :: later →
    ∃ t, step s = .next t ∧
      (b ≠ 0#8 → t = { s with
        resetInput := s.resetInput.tail, rxStream := later,
        calls := s.calls ++ [.readCall 1 s.cfg.byteTimeout], rxLen := b, rxBody := [], phase := .rxBody }) ∧
      (b = 0#8 →
        decodeBody s.cfg s.pendOp 0#8 [] = .protocolError (.malformedLength 0#8 none none []) ∧
        CompletedFrom { s with
            resetInput := s.resetInput.tail, rxStream := later,
            calls := s.calls ++ [.readCall 1 s.cfg.byteTimeout] }
          t (decodeBody s.cfg s.pendOp 0#8 []) s.warn)

/-- R153, R203: a body byte is appended; the body is decoded when, and only when, it has reached L bytes. The warning set of a
decoded response becomes `warn`. -/
def Obligations.BodyIsDecodedWhenComplete : Prop :=
  ∀ (s : State) (b : Byte) (later : List RxEvent),
    s.phase = .rxBody → s.resetAsserted = false → s.rxStream = .byte b :: later →
    ∃ t, step s = .next t ∧
      (s.rxBody.length + 1 ≠ s.rxLen.toNat → t = { s with
        resetInput := s.resetInput.tail, rxStream := later,
        calls := s.calls ++ [.readCall 1 s.cfg.byteTimeout], rxBody := s.rxBody ++ [b] }) ∧
      (s.rxBody.length + 1 = s.rxLen.toNat →
        CompletedFrom { s with
            resetInput := s.resetInput.tail, rxStream := later,
            calls := s.calls ++ [.readCall 1 s.cfg.byteTimeout] }
          t (decodeBody s.cfg s.pendOp s.rxLen (s.rxBody ++ [b]))
          ((decodeBody s.cfg s.pendOp s.rxLen (s.rxBody ++ [b])).warnings.getD s.warn))

/-- R197, R199: Timeout and Disconnected complete the exchange with the phase and the number of bytes of this response already
consumed (0, 1, or 2 and the body bytes); `link` is kept and what is left of the RX stream stays. -/
def Obligations.LostByteCompletesWithProgress : Prop :=
  ∀ (s : State) (event : RxEvent) (later : List RxEvent),
    s.phase.receives = true → s.resetAsserted = false → s.rxStream = event :: later →
    (event = .timeout ∨ event = .disconnected) →
    ∃ t received, step s = .next t ∧
      (s.phase = .rxHeader → received = 0) ∧ (s.phase = .rxLength → received = 1) ∧
      (s.phase = .rxBody → received = 2 + s.rxBody.length) ∧
      CompletedFrom { s with
          resetInput := s.resetInput.tail, rxStream := later,
          calls := s.calls ++ [.readCall 1 s.cfg.byteTimeout] }
        t
        (if event = .timeout then .transportError (.timeout s.phase received)
         else .transportError (.disconnected (.receiving s.phase received)))
        s.warn

/-- R240: the reset input, in any phase, puts every state element the spec gives a reset value to that value, aborts the
exchange without a result, and touches neither the transport nor its buffered bytes. The host's requests, the transport's
coming answers and the configuration stay as well. -/
def Obligations.ResetInputResetsTheEngine : Prop :=
  ∀ s : State, s.resetAsserted = true →
    ∃ t, step s = .next t ∧ t.link = .closed ∧ t.phase = .idle ∧ t.warn = 0#2 ∧ t.resultValid = false ∧
      t.calls = s.calls ∧ t.rxStream = s.rxStream ∧ t.writeAnswers = s.writeAnswers ∧ t.openAnswers = s.openAnswers ∧
      t.hostRequests = s.hostRequests ∧ t.cfg = s.cfg ∧ t.resetInput = s.resetInput.tail

/-- R37: the four state elements to which the spec gives a reset value. R6, R76, R77, R122, R155, R170: the configuration of
the reset state has the defaults the spec decides (notes/assumptions/11.md), which are no reset values, and the two
constraints the source fixes on the catalog. -/
def Obligations.ResetValues : Prop :=
  State.reset.link = .closed ∧ State.reset.phase = .idle ∧ State.reset.warn = 0#2 ∧ State.reset.resultValid = false ∧
  State.reset.cfg.reservedWordLimit = 4 ∧ State.reset.cfg.checksumPolicy = .warnOnly ∧
  [Membank.reserved, .epc, .tid, .user].map (Membank.code State.reset.cfg) = [0#8, 1#8, 2#8, 3#8] ∧
  [BuzzerMode.quiet, .round, .tag].map (BuzzerMode.code State.reset.cfg) = [0#8, 1#8, 2#8] ∧
  catalog State.reset.cfg 0x36#8 = .named .noTagError ∧ catalog State.reset.cfg 0x99#8 = .unhandled 0x99#8

/-! ### Response Decoder -/

/-- R154, R158, R159, R163: the bodies too short for their layout are malformed, with the lengths read so far. -/
def Obligations.ShortBodiesAreMalformed : Prop :=
  ∀ (cfg : Cfg) (op len : Byte) (body : Bytes), body.length = len.toNat →
    (len.toNat < 3 → decodeBody cfg op len body = .protocolError (.malformedLength len none none body)) ∧
    (3 ≤ len.toNat → len.toNat ≠ 4 → len.toNat < 6 → ChecksumPasses cfg len body → (op = 0x81#8 ∨ op = 0x82#8) →
      decodeBody cfg op len body = .protocolError (.malformedLength len none none body)) ∧
    (6 ≤ len.toNat → len.toNat < 9 + (body.getD 4 0#8).toNat → ChecksumPasses cfg len body →
      decodeBody cfg 0x81#8 len body = .protocolError (.malformedLength len (some (body.getD 4 0#8)) none body)) ∧
    (6 ≤ len.toNat → len.toNat < 10 + (body.getD 4 0#8).toNat → ChecksumPasses cfg len body →
      decodeBody cfg 0x82#8 len body = .protocolError (.malformedLength len (some (body.getD 4 0#8)) none body))

/-- R160: the EPC length of a read response is DL - RL - 2 on integers; a negative one is malformed with L, DL, RL and the body,
and otherwise the EPC span has that length and the data span has RL bytes. DL 13 and RL 6 give 5 and 6. -/
def Obligations.ReadEpcLengthOnIntegers : Prop :=
  ∀ (cfg : Cfg) (len dl rl : Byte) (body : Bytes),
    body.length = len.toNat → ChecksumPasses cfg len body → 6 ≤ len.toNat → body[4]? = some dl →
    9 + dl.toNat ≤ len.toNat → body[7 + dl.toNat]? = some rl →
    ((dl.toNat : Int) - rl.toNat - 2 < 0 →
      decodeBody cfg 0x81#8 len body = .protocolError (.malformedLength len (some dl) (some rl) body)) ∧
    (0 ≤ (dl.toNat : Int) - rl.toNat - 2 →
      ∃ fields, decodeBody cfg 0x81#8 len body = .readResult fields ∧
        (fields.epc.length : Int) = dl.toNat - rl.toNat - 2 ∧ fields.data.length = rl.toNat ∧
        (dl = 13#8 → rl = 6#8 → fields.epc.length = 5 ∧ fields.data.length = 6))

/-- R164: the EPC length of a write response is DL - 2 on integers; a DL of 0 or 1 is malformed. -/
def Obligations.WriteEpcLengthOnIntegers : Prop :=
  ∀ (cfg : Cfg) (len dl : Byte) (body : Bytes),
    body.length = len.toNat → ChecksumPasses cfg len body → 6 ≤ len.toNat → body[4]? = some dl →
    10 + dl.toNat ≤ len.toNat →
    ((dl.toNat : Int) - 2 < 0 →
      decodeBody cfg 0x82#8 len body = .protocolError (.malformedLength len (some dl) none body)) ∧
    (dl = 0#8 ∨ dl = 1#8 ↔ (dl.toNat : Int) - 2 < 0) ∧
    (0 ≤ (dl.toNat : Int) - 2 →
      ∃ fields, decodeBody cfg 0x82#8 len body = .writeResult fields ∧
        (fields.epc.length : Int) = dl.toNat - 2)

/-- R80, R161, R162, R169: a read body laid out by the table of R80 decodes to exactly its fields, tag_count as the sum of its
two bytes, and the warnings of R155 and R167. -/
def Obligations.ReadBodyDecodesToItsFields : Prop :=
  ∀ (cfg : Cfg) (len addr cmd high low dl rl sum : Byte) (pc epc crc data trailer : Bytes),
    pc.length = 2 → crc.length = 2 → data.length = rl.toNat → epc.length + rl.toNat + 2 = dl.toNat →
    (readBody addr cmd high low dl pc epc crc data rl trailer sum).length = len.toNat →
    ChecksumPasses cfg len (readBody addr cmd high low dl pc epc crc data rl trailer sum) →
    decodeBody cfg 0x81#8 len (readBody addr cmd high low dl pc epc crc data rl trailer sum) =
      .readResult
        { tagCount := high.toNat + low.toNat, pc := pc, epc := epc, crc := crc, data := data,
          addr := addr, cmd := cmd, trailer := trailer,
          warn := expectedWarnings 0x81#8 len (readBody addr cmd high low dl pc epc crc data rl trailer sum) }

/-- R81, R165, R162, R169: a write body laid out by the table of R81 decodes to exactly its fields. -/
def Obligations.WriteBodyDecodesToItsFields : Prop :=
  ∀ (cfg : Cfg) (len addr cmd high low dl status count sum : Byte) (pc epc crc trailer : Bytes),
    pc.length = 2 → crc.length = 2 → epc.length + 2 = dl.toNat →
    (writeBody addr cmd high low dl pc epc crc status count trailer sum).length = len.toNat →
    ChecksumPasses cfg len (writeBody addr cmd high low dl pc epc crc status count trailer sum) →
    decodeBody cfg 0x82#8 len (writeBody addr cmd high low dl pc epc crc status count trailer sum) =
      .writeResult
        { tagCount := high.toNat + low.toNat, pc := pc, epc := epc, crc := crc,
          statusCategory := catalog cfg status, statusCode := status, writeCount := count,
          addr := addr, cmd := cmd, trailer := trailer,
          warn := expectedWarnings 0x82#8 len (writeBody addr cmd high low dl pc epc crc status count trailer sum) }

/-- R161, R174: a ReadResult accounts for every byte of the body it was decoded from: its fields, laid out again by the table of
R80, are that body, so no span overlaps another and no index lies outside. -/
def Obligations.ReadResultTilesTheBody : Prop :=
  ∀ (cfg : Cfg) (op len : Byte) (body : Bytes) (r : ReadFields),
    body.length = len.toNat → decodeBody cfg op len body = .readResult r →
    r.pc.length = 2 ∧ r.crc.length = 2 ∧
    ∃ high low dl rl sum, r.tagCount = high.toNat + low.toNat ∧ r.data.length = rl.toNat ∧
      r.epc.length + rl.toNat + 2 = dl.toNat ∧
      body = readBody r.addr r.cmd high low dl r.pc r.epc r.crc r.data rl r.trailer sum

/-- R79, R156, R157: four bytes are an error response whatever the pending command, its code looked up in the catalog. -/
def Obligations.FourByteBodyIsErrorResponse : Prop :=
  ∀ (cfg : Cfg) (op addr cmd code sum : Byte), ChecksumPasses cfg 4#8 [addr, cmd, code, sum] →
    decodeBody cfg op 4#8 [addr, cmd, code, sum] =
      .errorResponse (catalog cfg code) code addr cmd (expectedWarnings op 4#8 [addr, cmd, code, sum])

/-- R82, R166: any other body answering a command other than ReadTag and WriteTag is returned raw. -/
def Obligations.OtherResponsesAreRaw : Prop :=
  ∀ (cfg : Cfg) (op len addr cmd sum : Byte) (data : Bytes),
    op ≠ 0x81#8 → op ≠ 0x82#8 → data.length + 3 = len.toNat → len.toNat ≠ 4 →
    ChecksumPasses cfg len ([addr, cmd] ++ data ++ [sum]) →
    decodeBody cfg op len ([addr, cmd] ++ data ++ [sum]) =
      .rawResponse addr cmd data (expectedWarnings op len ([addr, cmd] ++ data ++ [sum]))

/-- R155, R167, R216: under Reject a body that does not verify is a ChecksumMismatch with both bytes; under Warn no body is,
and in every decoded result W_CHECKSUM (bit 0) and W_CMD_ECHO (bit 1) say exactly whether the checksum and the echo failed. -/
def Obligations.ChecksumPolicyAndWarnings : Prop :=
  ∀ (cfg : Cfg) (op len : Byte) (body : Bytes), body.length = len.toNat → 3 ≤ len.toNat →
    (cfg.checksumPolicy = .reject → checksum (0xA0#8 :: len :: body.dropLast) ≠ body.getLastD 0#8 →
      decodeBody cfg op len body =
        .protocolError (.checksumMismatch (checksum (0xA0#8 :: len :: body.dropLast)) (body.getLastD 0#8))) ∧
    (cfg.checksumPolicy = .warnOnly → ∀ e r, decodeBody cfg op len body ≠ .protocolError (.checksumMismatch e r)) ∧
    (∀ w, (decodeBody cfg op len body).warnings = some w →
      (w.getLsbD 0 = true ↔ verifyFrame (0xA0#8 :: len :: body) = false) ∧
      (w.getLsbD 1 = true ↔ body[1]? ≠ some op))

/-- R171, R172: the catalog decodes every code it maps to its category and every other to Unhandled with the raw code; in
every configuration 0x36 is NoTagError and 0x99 is Unhandled(0x99), the two constraints the source fixes (R170). The
rendering of an Unhandled code tells which code it was. -/
def Obligations.CatalogFallsBackToUnhandled : Prop :=
  (∀ (cfg : Cfg) (code : Byte),
    (∀ name, cfg.errorCatalog.entries.lookup code = some name → catalog cfg code = .named name) ∧
    (cfg.errorCatalog.entries.lookup code = none → catalog cfg code = .unhandled code) ∧
    catalog cfg 0x36#8 = .named .noTagError ∧ catalog cfg 0x99#8 = .unhandled 0x99#8) ∧
  (∀ a b : Byte, (Category.unhandled a).render = (Category.unhandled b).render → a = b) ∧
  (Category.unhandled 0x99#8).render = "Unhandled(0x99)".toList

/-- R211 to R214: every result kind has its numeric code and every reason its own. -/
def Obligations.ResultAndReasonCodes : Prop :=
  (∀ r : Result, r.kindCode =
    match r with
    | .done => 0
    | .errorResponse _ _ _ _ _ => 1
    | .readResult _ => 2
    | .writeResult _ => 3
    | .rawResponse _ _ _ _ => 4
    | .validationError _ => 5
    | .destructiveWriteWarning _ _ _ => 6
    | .protocolError _ => 7
    | .transportError _ => 8) ∧
  [ValidationReason.wordLimit, .passwordLength, .dataLength, .membankRange, .modeRange, .frameTooLong].map
    ValidationReason.code = [1, 2, 3, 4, 5, 6] ∧
  (∀ b e r len dl rl body, (ProtocolError.badHeader b).code = 1 ∧ (ProtocolError.checksumMismatch e r).code = 2 ∧
    (ProtocolError.malformedLength len dl rl body).code = 3) ∧
  (∀ p n c, (TransportError.timeout p n).code = 1 ∧ (TransportError.disconnected c).code = 2 ∧
    TransportError.notOpen.code = 3)

/-- R201: what a decoded response or an acceptance can complete a command with is in the table of R201. -/
def Obligations.ResultsStayInTheTable : Prop :=
  (∀ (cfg : Cfg) (i : Instr) (len : Byte) (body : Bytes),
    possibleResult i (decodeBody cfg i.opcode len body) = true) ∧
  (∀ (i : Instr) (s t : State), s.phase = .idle → exec i s = .next t → t.phase = .idle →
    possibleResult i t.result = true)

/-! ### Rules of the whole machine -/

/-- No step of the model stops: it has a next state from every state. That the engine rests in a next state where the
environment supplies nothing is the model's choice (notes/assumptions/5.md; I16 and I17 call this stuck and allow
stuttering), and that it has no fault to stop with rests on notes/assumptions/16.md. -/
def Obligations.EveryStepHasANextState : Prop := ∀ s : State, ∃ t, step s = .next t

/-- R196, R58, R63, R204, R240: a step takes at most the next event off the RX stream, only a receive phase takes one, and no
completion and no engine reset drops one. That OPEN and CLOSE drop none either is the model's choice
(notes/assumptions/10.md; I18 leaves a discard open). -/
def Obligations.OnlyReceivePhasesConsumeEvents : Prop :=
  ∀ s t : State, step s = .next t →
    t.rxStream = if s.phase.receives && !s.resetAsserted then s.rxStream.tail else s.rxStream

/-- R50, R57, R60, R219: the only transport calls of a step are the open or close of a request in Idle, one write of the whole
latched frame in Transmit, and one read of one byte in a receive phase. -/
def Obligations.EachPhaseMakesOnlyItsCalls : Prop :=
  ∀ s t : State, step s = .next t →
    t.calls = s.calls ∨
    (s.phase = .idle ∧ ∃ port baud limit rest, s.hostRequests = .openLink port baud limit :: rest ∧
      t.calls = s.calls ++ [.openCall port baud limit]) ∨
    (s.phase = .idle ∧ (∃ rest, s.hostRequests = .closeLink :: rest) ∧ t.calls = s.calls ++ [.closeCall]) ∨
    (s.phase = .transmit ∧ t.calls = s.calls ++ [.writeCall s.pendFrame]) ∨
    (s.phase.receives = true ∧ t.calls = s.calls ++ [.readCall 1 s.cfg.byteTimeout])

/-- R22, R199, R240: `link` changes only by OPEN, CLOSE and engine reset; no exchange and no error changes it. -/
def Obligations.LinkChangesOnlyByOpenCloseReset : Prop :=
  ∀ s t : State, step s = .next t → t.link ≠ s.link →
    s.resetAsserted = true ∨
    (s.phase = .idle ∧ t.link = .opened ∧ ∃ port baud limit rest, s.hostRequests = .openLink port baud limit :: rest) ∨
    (s.phase = .idle ∧ t.link = .closed ∧ ∃ rest, s.hostRequests = .closeLink :: rest)

/-- R22 to R25, R27, R28, R36, R37: the invariant holds at reset in every environment. Its bounds on the elements R37 leaves
unspecified rest on the values the model names for them (notes/assumptions/2.md). -/
def Obligations.InvariantHoldsAtReset : Prop := ∀ env : Environment, (State.inEnvironment env).Inv

/-- R36 strengthened (R7, R22, R24, R25, R27, R194): every step keeps the invariant, from every state that meets it.
Its two bounds are the widths of R7 and R24, which the free values keep as well (notes/assumptions/3.md). -/
def Obligations.EveryStepKeepsTheInvariant : Prop :=
  ∀ s t : State, s.Inv → step s = .next t → t.Inv

/-- R36: the three invariants hold in every state a run reaches from reset, whatever the configuration, the host, the transport
and the reader do. -/
def Obligations.ReachableStatesMeetSpecInvariants : Prop := ∀ s : State, s.Reachable → s.SpecInv

/-- R50, R52, R85, R194: from a state that meets the invariant, every frame the engine hands to the transport is the frame of a
well-formed command, so no word range past a ceiling and no unknown opcode is ever sent. -/
def Obligations.OnlyCommandFramesAreSent : Prop :=
  ∀ s t : State, s.Inv → s.SentCommandFrames → step s = .next t → t.SentCommandFrames

/-- R20, R24, R25, R28, R37 (I1): the elements the spec calls unspecified are never observable: two states that differ only in
them step to two states that differ only in them. -/
def Obligations.UnspecifiedElementsAreUnobservable : Prop :=
  ∀ s s' t t' : State, SameVisible s s' → step s = .next t → step s' = .next t' → SameVisible t t'

/-- R60, R150 to R153, R195, R203: one exchange, from Transmit to its result. When the transport takes the frame and the reader
answers with a header, a length byte L and L body bytes, then after 2 + 1 + L steps the engine is idle with the decoded body as
its result, has sent exactly its frame, and has left the rest of the RX stream untouched. The read's limit stands in the
model's record of calls (notes/assumptions/6.md), and a result without a warning set keeps `warn` as it was
(notes/assumptions/13.md), which is 0 in every state that meets the invariant. -/
def Obligations.ExchangeDecodesTheWholeResponse : Prop :=
  ∀ (s : State) (len : Byte) (body : Bytes) (later : List RxEvent) (answers : List WriteAnswer),
    s.phase = .transmit → (∀ x ∈ s.resetInput, x = false) → s.writeAnswers = .writeOk :: answers →
    body.length = len.toNat →
    s.rxStream = [.byte 0xA0#8, .byte len] ++ body.map .byte ++ later →
    ∃ t, core.run (3 + body.length) s = .next t ∧
      t.phase = .idle ∧ t.resultValid = true ∧ t.result = decodeBody s.cfg s.pendOp len body ∧
      t.warn = (decodeBody s.cfg s.pendOp len body).warnings.getD s.warn ∧
      t.link = s.link ∧ t.cfg = s.cfg ∧ t.rxStream = later ∧ t.writeAnswers = answers ∧
      t.hostRequests = s.hostRequests ∧ t.openAnswers = s.openAnswers ∧
      t.calls = s.calls ++ .writeCall s.pendFrame ::
        List.replicate (2 + body.length) (.readCall 1 s.cfg.byteTimeout)

/-- R202: an exchange that reached Transmit completes after one write and at most 257 receive events, provided the transport
answers the write and every byte-read step. -/
def Obligations.ExchangeCompletesWithinBound : Prop :=
  ∀ s : State, s.Inv → s.phase = .transmit → (∀ x ∈ s.resetInput, x = false) →
    s.writeAnswers ≠ [] → 257 ≤ s.rxStream.length →
    ∃ n t, n ≤ 258 ∧ core.run n s = .next t ∧ t.phase = .idle ∧ t.resultValid = true ∧
      s.rxStream.length ≤ t.rxStream.length + 257
end

