-- ==== Sys2Proof/Laws/Bytes.lean ====
section
/-! SUPPORT. The byte-sequence notation, the checksum and the frame: one lemma for what each says. -/

namespace Sys2Proof.Machine

@[simp] theorem byteSum_nil : byteSum [] = 0 := rfl

@[simp] theorem byteSum_cons (b : Byte) (s : Bytes) : byteSum (b :: s) = b.toNat + byteSum s := by
  simp [byteSum]

@[simp] theorem byteSum_append (s t : Bytes) : byteSum (s ++ t) = byteSum s + byteSum t := by
  simp [byteSum]

theorem byteSum_perm {s t : Bytes} (h : s.Perm t) : byteSum s = byteSum t :=
  (h.map _).sum_eq

theorem checksum_toNat (s : Bytes) : (checksum s).toNat = (256 - byteSum s % 256) % 256 := by
  simp [checksum, u8]

/-- The checksum is the one byte that brings the sum to 0 mod 256. -/
theorem checksum_eq_iff (s : Bytes) (b : Byte) : checksum s = b ↔ (byteSum s + b.toNat) % 256 = 0 := by
  have hb := b.isLt
  rw [← BitVec.toNat_inj, checksum_toNat]
  omega

/-- A slice of a sequence whose front and middle are known is the middle. -/
theorem slice_middle (p m q : Bytes) {i j : Nat} (hi : p.length = i) (hj : j + 1 = i + m.length) :
    slice (p ++ m ++ q) i j = m := by
  subst hi
  simp [slice, hj]

theorem slice_length (s : Bytes) (i j : Nat) (h : j < s.length) : (slice s i j).length = j + 1 - i := by
  simp [slice]
  omega

theorem byteAt_eq_of_getElem? {s : Bytes} {i : Nat} {b : Byte} (h : s[i]? = some b) : byteAt s i = b := by
  simp [byteAt, List.getD, h]

theorem framePrefix_eq (p : Bytes) (broadcast : Bool) :
    framePrefix p broadcast ++ [checksum (framePrefix p broadcast)] = specFrame p broadcast := by
  cases broadcast <;> rfl

/-- `build_frame` answers a frame for exactly the payloads that fit one (R102, R103). -/
theorem buildFrame_eq (p : Bytes) (broadcast : Bool) :
    buildFrame p broadcast = if 253 < p.length then .error .frameTooLong else .ok (specFrame p broadcast) := by
  simp only [buildFrame, framePrefix_eq, Config.maxPayload, gt_iff_lt]

theorem buildFrame_ok_iff {p f : Bytes} {broadcast : Bool} :
    buildFrame p broadcast = .ok f ↔ p.length ≤ 253 ∧ f = specFrame p broadcast := by
  rw [buildFrame_eq]
  by_cases h : 253 < p.length
  · simp [h]
  · simp [h, eq_comm]; omega

@[simp] theorem specFrame_length (p : Bytes) (broadcast : Bool) : (specFrame p broadcast).length = p.length + 4 := by
  simp [specFrame]

/-- In a body of the length its length byte says, the model's received checksum is the last byte. -/
theorem receivedChecksum_eq {len : Byte} {body : Bytes} (h : body.length = len.toNat) :
    receivedChecksum len body = body.getLastD 0#8 := by
  rw [receivedChecksum, ← h, byteAt, List.getD_eq_getElem?_getD, ← List.getLast?_eq_getElem?,
    List.getLastD_eq_getLast?]

theorem expectedChecksum_eq {len : Byte} {body : Bytes} (h : body.length = len.toNat) :
    expectedChecksum len body = checksum (0xA0#8 :: len :: body.dropLast) := by
  rw [expectedChecksum, ← h, List.dropLast_eq_take]
  rfl

theorem checksumFails_iff {len : Byte} {body : Bytes} (h : body.length = len.toNat) :
    checksumFails len body = true ↔ checksum (0xA0#8 :: len :: body.dropLast) ≠ body.getLastD 0#8 := by
  simp [checksumFails, receivedChecksum_eq h, expectedChecksum_eq h]

/-- The warning set the decoder computes is the one R155 and R167 say. -/
theorem responseWarnings_eq {len : Byte} {body : Bytes} (op : Byte) (h : body.length = len.toNat) :
    responseWarnings op len body = expectedWarnings op len body := by
  by_cases hc : checksum (0xA0#8 :: len :: body.dropLast) = body.getLastD 0#8 <;>
    by_cases he : body.getD 1 0#8 = op <;>
      simp [responseWarnings, expectedWarnings, checksumFails, receivedChecksum_eq h, expectedChecksum_eq h, echoFails,
        byteAt, hc, wChecksum, wCmdEcho, List.getD] <;> simp_all [List.getD]

/-- Where the checksum passes, `decode_body` is the choice of the layout (R156, R157). -/
theorem decodeBody_of_passes {cfg : Cfg} {op len : Byte} {body : Bytes} (h : body.length = len.toNat)
    (h3 : 3 ≤ len.toNat) (hp : ChecksumPasses cfg len body) :
    decodeBody cfg op len body = decodeLayout cfg op len body (expectedWarnings op len body) := by
  have h3' : ¬ len.toNat < 3 := by omega
  have hf : (checksumFails len body && decide (cfg.checksumPolicy = .reject)) = false := by
    rcases hp with hp | hp
    · simp [checksumFails, receivedChecksum_eq h, expectedChecksum_eq h, hp]
    · simp [hp]
  rw [decodeBody, if_neg h3', hf, responseWarnings_eq op h]
  simp

/-- A frame sums to 0 mod 256 (R73). -/
theorem specFrame_sum (p : Bytes) (broadcast : Bool) : byteSum (specFrame p broadcast) % 256 = 0 := by
  simp only [specFrame, byteSum_append, byteSum_cons, byteSum_nil, checksum_toNat]
  omega

/-- Adjacent slices join. -/
theorem slice_append_slice (s : Bytes) (i j k : Nat) (h1 : i ≤ j + 1) (h2 : j ≤ k) :
    slice s i j ++ slice s (j + 1) k = slice s i k := by
  unfold slice
  have hd : s.drop (j + 1) = (s.drop i).drop (j + 1 - i) := by
    rw [List.drop_drop]
    congr 1
    omega
  rw [hd, show k + 1 - i = (j + 1 - i) + (k + 1 - (j + 1)) by omega, List.take_add]

theorem slice_one (s : Bytes) (i : Nat) (h : i < s.length) : slice s i i = [byteAt s i] := by
  simp [slice, byteAt, List.getD, h, List.take_one, List.head?_drop]

theorem slice_all (s : Bytes) (j : Nat) (h : s.length = j + 1) : slice s 0 j = s := by
  simp [slice, ← h]

end Sys2Proof.Machine
end

