-- ==== Sys2Proof/Laws/Decode.lean ====
section
/-! SUPPORT. What the decoder reads: the opcode map as a chain of cases, and the operand fields of the two long commands. -/

namespace Sys2Proof

open Machine

/-- The opcode map (R84): every row's mask is the whole byte. -/
theorem decode_eq (op : Byte) (rest : Bytes) :
    decode (op :: rest) =
      if op = 0x70#8 then .ok (.reset, rest)
      else if op = 0x81#8 then parseRead rest
      else if op = 0x82#8 then parseWrite rest
      else if op = 0x89#8 then parseInventory rest
      else if op = 0x7A#8 then parseBuzzer rest
      else if op = 0x68#8 then .ok (.getid, rest)
      else .error (.unknownOpcode op) := by
  have hm : ∀ x : Byte, x &&& 255#8 = x := by decide
  simp only [decode, opcodeTable, OpcodeRow.selects, List.find?, hm, Config.opReset, Config.opRead, Config.opWrite,
    Config.opInventory, Config.opBuzzer, Config.opGetId]
  by_cases h1 : op = 0x70#8
  · simp [h1]
  by_cases h2 : op = 0x81#8
  · simp [h2]
  by_cases h3 : op = 0x82#8
  · simp [h3]
  by_cases h4 : op = 0x89#8
  · simp [h4]
  by_cases h5 : op = 0x7A#8
  · simp [h5]
  by_cases h6 : op = 0x68#8
  · simp [h6]
  simp [*, beq_eq_false_iff_ne.mpr]

theorem parseRead_ok {s rest : Bytes} {i : Instr} (h : parseRead s = .ok (i, rest)) :
    ∃ m a c, i = .read m a c ∧ membankOk m = true ∧ s = m :: a :: c :: rest := by
  unfold parseRead at h
  split at h
  · split at h
    · simp at h
      obtain ⟨rfl, rfl⟩ := h
      exact ⟨_, _, _, rfl, ‹_›, rfl⟩
    · simp at h
  · simp at h

theorem parseWrite_ok {s rest : Bytes} {i : Instr} (h : parseWrite s = .ok (i, rest)) :
    ∃ m pw a c d, i = .write m pw a c d ∧ membankOk m = true ∧ pw.length = 4 ∧
      d.length = 2 * c.toNat ∧ s = pw ++ m :: a :: c :: (d ++ rest) := by
  unfold parseWrite at h
  split at h
  · split at h
    · split at h
      · simp at h
      · rename_i hl
        simp at h
        obtain ⟨rfl, rfl⟩ := h
        refine ⟨_, _, _, _, _, rfl, ‹_›, rfl, ?_, ?_⟩
        · simp [Config.wordBytes] at hl ⊢
          omega
        · simp
    · simp at h
  · simp at h

end Sys2Proof
end

