-- ==== Sys2Proof/Laws/Encoder.lean ====
section
/-! SUPPORT. The operand checks in the terms of the spec's tables (R121 to R128, R136), and the encoders' outcomes. -/

namespace Sys2Proof.Machine

/-- The four bytes that name a bank. -/
theorem membank_cases {m : Byte} (h : m.toNat ≤ 3) : m = 0#8 ∨ m = 1#8 ∨ m = 2#8 ∨ m = 3#8 := by
  revert m; decide

theorem membankOfCode_eq_none (cfg : Cfg) {m : Byte} (h : 3 < m.toNat) : membankOfCode cfg m = none := by
  have h0 : m ≠ 0#8 := by rintro rfl; simp at h
  have h1 : m ≠ 1#8 := by rintro rfl; simp at h
  have h2 : m ≠ 2#8 := by rintro rfl; simp at h
  have h3 : m ≠ 3#8 := by rintro rfl; simp at h
  simp [membankOfCode, h0, h1, h2, h3]

/-- A code 0 to 3 names one bank, and no other (R76). -/
theorem membankOfCode_cases (cfg : Cfg) {m : Byte} (h : m.toNat ≤ 3) :
    ∃ bank, membankOfCode cfg m = some bank ∧ ∀ other, NamesBank cfg m other ↔ bank = other := by
  rcases membank_cases h with rfl | rfl | rfl | rfl <;> exact ⟨_, rfl, fun _ => by simp [NamesBank]⟩

theorem membankOfCode_eq_some_iff (cfg : Cfg) (m : Byte) (bank : Membank) :
    membankOfCode cfg m = some bank ↔ NamesBank cfg m bank := by
  by_cases h : m.toNat ≤ 3
  · obtain ⟨b, hb, hn⟩ := membankOfCode_cases cfg h
    rw [hb, hn, Option.some.injEq]
  · rw [membankOfCode_eq_none cfg (by omega)]
    refine ⟨fun g => by simp at g, fun g => absurd ?_ h⟩
    rcases g with ⟨rfl, -⟩ | ⟨rfl, -⟩ | ⟨rfl, -⟩ | ⟨rfl, -⟩ <;> decide

/-- The code of a bank names it, whatever the assignment: the codes are one for each bank (R76). -/
theorem membankOfCode_code (cfg : Cfg) (bank : Membank) : membankOfCode cfg (Membank.code cfg bank) = some bank := by
  obtain ⟨⟨b0, b1, b2, b3, hb⟩, _, _, _, _, _⟩ := cfg
  revert hb
  cases b0 <;> cases b1 <;> cases b2 <;> cases b3 <;> intro hb <;> first | exact absurd hb (by decide) | cases bank <;> rfl

/-- Under the default codes of R76, a membank byte names the EPC bank exactly when it is 1. -/
theorem namesBank_epc_default {cfg : Cfg} (h : cfg.membankCodes = Config.membankCodes) (m : Byte) :
    NamesBank cfg m .epc ↔ m = 1#8 := by
  simp [NamesBank, h, Config.membankCodes]

/-- Every byte's range check, by the table of R122: out of range, past the ceiling, or passed (R121, R123, R126). -/
theorem checkRange_eq (cfg : Cfg) (m a c : Byte) :
    (3 < m.toNat → checkRange cfg m a c = some .membankRange) ∧
    (m.toNat ≤ 3 → ¬ WithinCeiling cfg m a c → checkRange cfg m a c = some .wordLimit) ∧
    (WithinCeiling cfg m a c → checkRange cfg m a c = none) := by
  have ceiling : ∀ h : m.toNat ≤ 3, ∃ bank, membankOfCode cfg m = some bank ∧
      (WithinCeiling cfg m a c ↔ a.toNat + c.toNat ≤ wordLimit cfg bank) := by
    intro h
    obtain ⟨bank, hb, hn⟩ := membankOfCode_cases cfg h
    refine ⟨bank, hb, ?_⟩
    cases bank <;>
      simp [WithinCeiling, hn, h, wordLimit, Config.epcWordLimit, Config.tidWordLimit, Config.userWordLimit]
  refine ⟨fun h => by simp [checkRange, membankOfCode_eq_none cfg h], fun h hw => ?_, fun hw => ?_⟩
  · obtain ⟨bank, hb, hc⟩ := ceiling h
    rw [hc] at hw
    simp only [checkRange, hb]
    exact if_pos (by omega)
  · obtain ⟨bank, hb, hc⟩ := ceiling hw.1
    rw [hc] at hw
    simp only [checkRange, hb]
    exact if_neg (by omega)

theorem checkRange_none_iff (cfg : Cfg) (m a c : Byte) : checkRange cfg m a c = none ↔ WithinCeiling cfg m a c := by
  obtain ⟨h1, h2, h3⟩ := checkRange_eq cfg m a c
  refine ⟨fun h => ?_, h3⟩
  by_contra hw
  by_cases hm : m.toNat ≤ 3
  · simp [h2 hm hw] at h
  · simp [h1 (by omega)] at h

/-- WriteTag's checks in the order of R126: the first that fails gives the reason. -/
theorem checkWrite_eq (cfg : Cfg) (m a c : Byte) (pw d : Bytes) :
    (3 < m.toNat → checkWrite cfg m pw a c d = some .membankRange) ∧
    (m.toNat ≤ 3 → ¬ WithinCeiling cfg m a c → checkWrite cfg m pw a c d = some .wordLimit) ∧
    (WithinCeiling cfg m a c → pw.length ≠ 4 → checkWrite cfg m pw a c d = some .passwordLength) ∧
    (WithinCeiling cfg m a c → pw.length = 4 → d.length ≠ 2 * c.toNat →
      checkWrite cfg m pw a c d = some .dataLength) ∧
    (WithinCeiling cfg m a c → pw.length = 4 → d.length = 2 * c.toNat → checkWrite cfg m pw a c d = none) := by
  obtain ⟨h1, h2, h3⟩ := checkRange_eq cfg m a c
  refine ⟨fun h => by simp [checkWrite, h1 h], fun h hw => by simp [checkWrite, h2 h hw], fun h hp => ?_,
    fun h hp hd => ?_, fun h hp hd => ?_⟩ <;>
    simp_all [checkWrite, passwordLengthOk, dataLengthOk, Config.passwordLen, Config.wordBytes]

theorem checkWrite_none_iff (cfg : Cfg) (m a c : Byte) (pw d : Bytes) :
    checkWrite cfg m pw a c d = none ↔ WithinCeiling cfg m a c ∧ pw.length = 4 ∧ d.length = 2 * c.toNat := by
  obtain ⟨-, -, h3, h4, h5⟩ := checkWrite_eq cfg m a c pw d
  refine ⟨fun h => ?_, fun h => h5 h.1 h.2.1 h.2.2⟩
  have hw : WithinCeiling cfg m a c := by
    rw [← checkRange_none_iff]
    unfold checkWrite at h
    split at h <;> simp_all
  by_cases hp : pw.length = 4
  · by_cases hd : d.length = 2 * c.toNat
    · exact ⟨hw, hp, hd⟩
    · simp [h4 hw hp hd] at h
  · simp [h3 hw hp] at h

/-- The destructive-write condition (R127). -/
theorem isDestructive_iff (cfg : Cfg) (m a : Byte) : isDestructive cfg m a = true ↔ TouchesPcCrc cfg m a := by
  simp [isDestructive, TouchesPcCrc, membankOfCode_eq_some_iff]

theorem modeOk_iff (m : Byte) : modeOk m = true ↔ m.toNat ≤ 2 := by simp [modeOk]

/-- A write under the ceilings whose payload passes 253 bytes is a Reserved bank write under a limit above 122 (R138). -/
theorem overlong_is_reserved {cfg : Cfg} {m a c : Byte} (hw : WithinCeiling cfg m a c) (h : 253 < 8 + 2 * c.toNat) :
    NamesBank cfg m .reserved ∧ 122 < cfg.reservedWordLimit := by
  obtain ⟨hm, h0, h1, h2, h3⟩ := hw
  obtain ⟨bank, -, hn⟩ := membankOfCode_cases cfg hm
  simp only [hn] at h0 h1 h2 h3 ⊢
  cases bank <;> simp at h0 h1 h2 h3 ⊢ <;> omega

theorem wellFormed_read (cfg : Cfg) (m a c : Byte) :
    Instr.WellFormed cfg (.read m a c) ↔ WithinCeiling cfg m a c := by
  rw [← checkRange_none_iff]
  simp [Instr.WellFormed, Instr.wellFormed, Instr.encodable, Instr.membankChecked, Instr.passwordChecked,
    Instr.dataChecked, Instr.modeChecked, Instr.rangeChecked]
  intro h
  simp only [membankOk, decide_eq_true_eq]
  exact ((checkRange_none_iff _ _ _ _).mp h).1

theorem wellFormed_write (cfg : Cfg) (m a c : Byte) (pw d : Bytes) :
    Instr.WellFormed cfg (.write m pw a c d) ↔
      WithinCeiling cfg m a c ∧ pw.length = 4 ∧ d.length = 2 * c.toNat := by
  rw [← checkRange_none_iff]
  simp [Instr.WellFormed, Instr.wellFormed, Instr.encodable, Instr.membankChecked, Instr.passwordChecked,
    Instr.dataChecked, Instr.modeChecked, Instr.rangeChecked, passwordLengthOk, dataLengthOk, Config.passwordLen,
    Config.wordBytes]
  constructor
  · rintro ⟨⟨⟨h1, h2⟩, h3⟩, h4⟩
    exact ⟨h4, h2, h3⟩
  · rintro ⟨h4, h2, h3⟩
    refine ⟨⟨⟨?_, h2⟩, h3⟩, h4⟩
    simp only [membankOk, decide_eq_true_eq]
    exact ((checkRange_none_iff _ _ _ _).mp h4).1

/-- The reasons the shared checks can give (R126). -/
theorem checkRange_reason {cfg : Cfg} {m a c : Byte} {r : ValidationReason} (h : checkRange cfg m a c = some r) :
    r = .membankRange ∨ r = .wordLimit := by
  unfold checkRange at h
  split at h
  · exact .inl (Option.some.inj h).symm
  · split at h <;> simp at h
    exact .inr h.symm

/-- The reasons WriteTag's checks can give (R126). -/
theorem checkWrite_reason {cfg : Cfg} {m a c : Byte} {pw d : Bytes} {r : ValidationReason}
    (h : checkWrite cfg m pw a c d = some r) :
    r = .membankRange ∨ r = .wordLimit ∨ r = .passwordLength ∨ r = .dataLength := by
  unfold checkWrite at h
  split at h
  · rename_i g
    obtain rfl := Option.some.inj h
    rcases checkRange_reason g with h | h <;> simp [h]
  · split at h
    · simp at h
      simp [← h]
    · split at h <;> simp at h
      simp [← h]

end Sys2Proof.Machine
end

