-- ==== Sys2Proof/Laws/State.lean ====
section
/-! SUPPORT. What each named update does to each field of the state: one lemma per field per update, each true by
definition, so that no later proof unfolds a record update. -/

namespace Sys2Proof.Machine.State

variable (s : State)

@[simp] theorem accept_cfg : (s.accept).cfg = s.cfg := rfl
@[simp] theorem accept_link : (s.accept).link = s.link := rfl
@[simp] theorem accept_phase : (s.accept).phase = s.phase := rfl
@[simp] theorem accept_pendOp : (s.accept).pendOp = s.pendOp := rfl
@[simp] theorem accept_pendFrame : (s.accept).pendFrame = s.pendFrame := rfl
@[simp] theorem accept_rxLen : (s.accept).rxLen = s.rxLen := rfl
@[simp] theorem accept_rxBody : (s.accept).rxBody = s.rxBody := rfl
@[simp] theorem accept_warn : (s.accept).warn = 0#2 := rfl
@[simp] theorem accept_result : (s.accept).result = Config.freeResult s.draws := rfl
@[simp] theorem accept_resultValid : (s.accept).resultValid = false := rfl
@[simp] theorem accept_reqBroadcast : (s.accept).reqBroadcast = s.reqBroadcast := rfl
@[simp] theorem accept_reqConfirm : (s.accept).reqConfirm = s.reqConfirm := rfl
@[simp] theorem accept_hostRequests : (s.accept).hostRequests = s.hostRequests := rfl
@[simp] theorem accept_resetInput : (s.accept).resetInput = s.resetInput := rfl
@[simp] theorem accept_openAnswers : (s.accept).openAnswers = s.openAnswers := rfl
@[simp] theorem accept_writeAnswers : (s.accept).writeAnswers = s.writeAnswers := rfl
@[simp] theorem accept_rxStream : (s.accept).rxStream = s.rxStream := rfl
@[simp] theorem accept_calls : (s.accept).calls = s.calls := rfl
@[simp] theorem accept_draws : (s.accept).draws = s.draws + 1 := rfl

@[simp] theorem complete_cfg (r : Result) : (s.complete r).cfg = s.cfg := rfl
@[simp] theorem complete_link (r : Result) : (s.complete r).link = s.link := rfl
@[simp] theorem complete_phase (r : Result) : (s.complete r).phase = .idle := rfl
@[simp] theorem complete_pendOp (r : Result) : (s.complete r).pendOp = Config.freePendOp s.draws := rfl
@[simp] theorem complete_pendFrame (r : Result) : (s.complete r).pendFrame = (Config.freePendFrame s.draws).take Config.maxFrame := rfl
@[simp] theorem complete_rxLen (r : Result) : (s.complete r).rxLen = Config.freeRxLen s.draws := rfl
@[simp] theorem complete_rxBody (r : Result) : (s.complete r).rxBody = (Config.freeRxBody s.draws).take Config.maxBody := rfl
@[simp] theorem complete_warn (r : Result) : (s.complete r).warn = r.warnings.getD s.warn := rfl
@[simp] theorem complete_result (r : Result) : (s.complete r).result = r := rfl
@[simp] theorem complete_resultValid (r : Result) : (s.complete r).resultValid = true := rfl
@[simp] theorem complete_reqBroadcast (r : Result) : (s.complete r).reqBroadcast = s.reqBroadcast := rfl
@[simp] theorem complete_reqConfirm (r : Result) : (s.complete r).reqConfirm = s.reqConfirm := rfl
@[simp] theorem complete_hostRequests (r : Result) : (s.complete r).hostRequests = s.hostRequests := rfl
@[simp] theorem complete_resetInput (r : Result) : (s.complete r).resetInput = s.resetInput := rfl
@[simp] theorem complete_openAnswers (r : Result) : (s.complete r).openAnswers = s.openAnswers := rfl
@[simp] theorem complete_writeAnswers (r : Result) : (s.complete r).writeAnswers = s.writeAnswers := rfl
@[simp] theorem complete_rxStream (r : Result) : (s.complete r).rxStream = s.rxStream := rfl
@[simp] theorem complete_calls (r : Result) : (s.complete r).calls = s.calls := rfl
@[simp] theorem complete_draws (r : Result) : (s.complete r).draws = s.draws + 1 := rfl

@[simp] theorem engineReset_cfg : (s.engineReset).cfg = s.cfg := rfl
@[simp] theorem engineReset_link : (s.engineReset).link = .closed := rfl
@[simp] theorem engineReset_phase : (s.engineReset).phase = .idle := rfl
@[simp] theorem engineReset_pendOp : (s.engineReset).pendOp = 0#8 := rfl
@[simp] theorem engineReset_pendFrame : (s.engineReset).pendFrame = [] := rfl
@[simp] theorem engineReset_rxLen : (s.engineReset).rxLen = 0#8 := rfl
@[simp] theorem engineReset_rxBody : (s.engineReset).rxBody = [] := rfl
@[simp] theorem engineReset_warn : (s.engineReset).warn = 0#2 := rfl
@[simp] theorem engineReset_result : (s.engineReset).result = .done := rfl
@[simp] theorem engineReset_resultValid : (s.engineReset).resultValid = false := rfl
@[simp] theorem engineReset_reqBroadcast : (s.engineReset).reqBroadcast = s.reqBroadcast := rfl
@[simp] theorem engineReset_reqConfirm : (s.engineReset).reqConfirm = s.reqConfirm := rfl
@[simp] theorem engineReset_hostRequests : (s.engineReset).hostRequests = s.hostRequests := rfl
@[simp] theorem engineReset_resetInput : (s.engineReset).resetInput = s.resetInput := rfl
@[simp] theorem engineReset_openAnswers : (s.engineReset).openAnswers = s.openAnswers := rfl
@[simp] theorem engineReset_writeAnswers : (s.engineReset).writeAnswers = s.writeAnswers := rfl
@[simp] theorem engineReset_rxStream : (s.engineReset).rxStream = s.rxStream := rfl
@[simp] theorem engineReset_calls : (s.engineReset).calls = s.calls := rfl
@[simp] theorem engineReset_draws : (s.engineReset).draws = s.draws := rfl

@[simp] theorem call_cfg (c : TransportCall) : (s.call c).cfg = s.cfg := rfl
@[simp] theorem call_link (c : TransportCall) : (s.call c).link = s.link := rfl
@[simp] theorem call_phase (c : TransportCall) : (s.call c).phase = s.phase := rfl
@[simp] theorem call_pendOp (c : TransportCall) : (s.call c).pendOp = s.pendOp := rfl
@[simp] theorem call_pendFrame (c : TransportCall) : (s.call c).pendFrame = s.pendFrame := rfl
@[simp] theorem call_rxLen (c : TransportCall) : (s.call c).rxLen = s.rxLen := rfl
@[simp] theorem call_rxBody (c : TransportCall) : (s.call c).rxBody = s.rxBody := rfl
@[simp] theorem call_warn (c : TransportCall) : (s.call c).warn = s.warn := rfl
@[simp] theorem call_result (c : TransportCall) : (s.call c).result = s.result := rfl
@[simp] theorem call_resultValid (c : TransportCall) : (s.call c).resultValid = s.resultValid := rfl
@[simp] theorem call_reqBroadcast (c : TransportCall) : (s.call c).reqBroadcast = s.reqBroadcast := rfl
@[simp] theorem call_reqConfirm (c : TransportCall) : (s.call c).reqConfirm = s.reqConfirm := rfl
@[simp] theorem call_hostRequests (c : TransportCall) : (s.call c).hostRequests = s.hostRequests := rfl
@[simp] theorem call_resetInput (c : TransportCall) : (s.call c).resetInput = s.resetInput := rfl
@[simp] theorem call_openAnswers (c : TransportCall) : (s.call c).openAnswers = s.openAnswers := rfl
@[simp] theorem call_writeAnswers (c : TransportCall) : (s.call c).writeAnswers = s.writeAnswers := rfl
@[simp] theorem call_rxStream (c : TransportCall) : (s.call c).rxStream = s.rxStream := rfl
@[simp] theorem call_calls (c : TransportCall) : (s.call c).calls = s.calls ++ [c] := rfl
@[simp] theorem call_draws (c : TransportCall) : (s.call c).draws = s.draws := rfl

@[simp] theorem present_cfg (rest : List Request) (b c : Bool) : (s.present rest b c).cfg = s.cfg := rfl
@[simp] theorem present_link (rest : List Request) (b c : Bool) : (s.present rest b c).link = s.link := rfl
@[simp] theorem present_phase (rest : List Request) (b c : Bool) : (s.present rest b c).phase = s.phase := rfl
@[simp] theorem present_pendOp (rest : List Request) (b c : Bool) : (s.present rest b c).pendOp = s.pendOp := rfl
@[simp] theorem present_pendFrame (rest : List Request) (b c : Bool) : (s.present rest b c).pendFrame = s.pendFrame := rfl
@[simp] theorem present_rxLen (rest : List Request) (b c : Bool) : (s.present rest b c).rxLen = s.rxLen := rfl
@[simp] theorem present_rxBody (rest : List Request) (b c : Bool) : (s.present rest b c).rxBody = s.rxBody := rfl
@[simp] theorem present_warn (rest : List Request) (b c : Bool) : (s.present rest b c).warn = s.warn := rfl
@[simp] theorem present_result (rest : List Request) (b c : Bool) : (s.present rest b c).result = s.result := rfl
@[simp] theorem present_resultValid (rest : List Request) (b c : Bool) : (s.present rest b c).resultValid = s.resultValid := rfl
@[simp] theorem present_reqBroadcast (rest : List Request) (b c : Bool) : (s.present rest b c).reqBroadcast = b := rfl
@[simp] theorem present_reqConfirm (rest : List Request) (b c : Bool) : (s.present rest b c).reqConfirm = c := rfl
@[simp] theorem present_hostRequests (rest : List Request) (b c : Bool) : (s.present rest b c).hostRequests = rest := rfl
@[simp] theorem present_resetInput (rest : List Request) (b c : Bool) : (s.present rest b c).resetInput = s.resetInput := rfl
@[simp] theorem present_openAnswers (rest : List Request) (b c : Bool) : (s.present rest b c).openAnswers = s.openAnswers := rfl
@[simp] theorem present_writeAnswers (rest : List Request) (b c : Bool) : (s.present rest b c).writeAnswers = s.writeAnswers := rfl
@[simp] theorem present_rxStream (rest : List Request) (b c : Bool) : (s.present rest b c).rxStream = s.rxStream := rfl
@[simp] theorem present_calls (rest : List Request) (b c : Bool) : (s.present rest b c).calls = s.calls := rfl
@[simp] theorem present_draws (rest : List Request) (b c : Bool) : (s.present rest b c).draws = s.draws := rfl

@[simp] theorem latch_cfg (op : Byte) (f : Bytes) : (s.latch op f).cfg = s.cfg := rfl
@[simp] theorem latch_link (op : Byte) (f : Bytes) : (s.latch op f).link = s.link := rfl
@[simp] theorem latch_phase (op : Byte) (f : Bytes) : (s.latch op f).phase = .transmit := rfl
@[simp] theorem latch_pendOp (op : Byte) (f : Bytes) : (s.latch op f).pendOp = op := rfl
@[simp] theorem latch_pendFrame (op : Byte) (f : Bytes) : (s.latch op f).pendFrame = f := rfl
@[simp] theorem latch_rxLen (op : Byte) (f : Bytes) : (s.latch op f).rxLen = s.rxLen := rfl
@[simp] theorem latch_rxBody (op : Byte) (f : Bytes) : (s.latch op f).rxBody = s.rxBody := rfl
@[simp] theorem latch_warn (op : Byte) (f : Bytes) : (s.latch op f).warn = s.warn := rfl
@[simp] theorem latch_result (op : Byte) (f : Bytes) : (s.latch op f).result = s.result := rfl
@[simp] theorem latch_resultValid (op : Byte) (f : Bytes) : (s.latch op f).resultValid = s.resultValid := rfl
@[simp] theorem latch_reqBroadcast (op : Byte) (f : Bytes) : (s.latch op f).reqBroadcast = s.reqBroadcast := rfl
@[simp] theorem latch_reqConfirm (op : Byte) (f : Bytes) : (s.latch op f).reqConfirm = s.reqConfirm := rfl
@[simp] theorem latch_hostRequests (op : Byte) (f : Bytes) : (s.latch op f).hostRequests = s.hostRequests := rfl
@[simp] theorem latch_resetInput (op : Byte) (f : Bytes) : (s.latch op f).resetInput = s.resetInput := rfl
@[simp] theorem latch_openAnswers (op : Byte) (f : Bytes) : (s.latch op f).openAnswers = s.openAnswers := rfl
@[simp] theorem latch_writeAnswers (op : Byte) (f : Bytes) : (s.latch op f).writeAnswers = s.writeAnswers := rfl
@[simp] theorem latch_rxStream (op : Byte) (f : Bytes) : (s.latch op f).rxStream = s.rxStream := rfl
@[simp] theorem latch_calls (op : Byte) (f : Bytes) : (s.latch op f).calls = s.calls := rfl
@[simp] theorem latch_draws (op : Byte) (f : Bytes) : (s.latch op f).draws = s.draws := rfl

@[simp] theorem startBody_cfg (b : Byte) : (s.startBody b).cfg = s.cfg := rfl
@[simp] theorem startBody_link (b : Byte) : (s.startBody b).link = s.link := rfl
@[simp] theorem startBody_phase (b : Byte) : (s.startBody b).phase = s.phase := rfl
@[simp] theorem startBody_pendOp (b : Byte) : (s.startBody b).pendOp = s.pendOp := rfl
@[simp] theorem startBody_pendFrame (b : Byte) : (s.startBody b).pendFrame = s.pendFrame := rfl
@[simp] theorem startBody_rxLen (b : Byte) : (s.startBody b).rxLen = b := rfl
@[simp] theorem startBody_rxBody (b : Byte) : (s.startBody b).rxBody = [] := rfl
@[simp] theorem startBody_warn (b : Byte) : (s.startBody b).warn = s.warn := rfl
@[simp] theorem startBody_result (b : Byte) : (s.startBody b).result = s.result := rfl
@[simp] theorem startBody_resultValid (b : Byte) : (s.startBody b).resultValid = s.resultValid := rfl
@[simp] theorem startBody_reqBroadcast (b : Byte) : (s.startBody b).reqBroadcast = s.reqBroadcast := rfl
@[simp] theorem startBody_reqConfirm (b : Byte) : (s.startBody b).reqConfirm = s.reqConfirm := rfl
@[simp] theorem startBody_hostRequests (b : Byte) : (s.startBody b).hostRequests = s.hostRequests := rfl
@[simp] theorem startBody_resetInput (b : Byte) : (s.startBody b).resetInput = s.resetInput := rfl
@[simp] theorem startBody_openAnswers (b : Byte) : (s.startBody b).openAnswers = s.openAnswers := rfl
@[simp] theorem startBody_writeAnswers (b : Byte) : (s.startBody b).writeAnswers = s.writeAnswers := rfl
@[simp] theorem startBody_rxStream (b : Byte) : (s.startBody b).rxStream = s.rxStream := rfl
@[simp] theorem startBody_calls (b : Byte) : (s.startBody b).calls = s.calls := rfl
@[simp] theorem startBody_draws (b : Byte) : (s.startBody b).draws = s.draws := rfl

@[simp] theorem appendBody_cfg (b : Byte) : (s.appendBody b).cfg = s.cfg := rfl
@[simp] theorem appendBody_link (b : Byte) : (s.appendBody b).link = s.link := rfl
@[simp] theorem appendBody_phase (b : Byte) : (s.appendBody b).phase = s.phase := rfl
@[simp] theorem appendBody_pendOp (b : Byte) : (s.appendBody b).pendOp = s.pendOp := rfl
@[simp] theorem appendBody_pendFrame (b : Byte) : (s.appendBody b).pendFrame = s.pendFrame := rfl
@[simp] theorem appendBody_rxLen (b : Byte) : (s.appendBody b).rxLen = s.rxLen := rfl
@[simp] theorem appendBody_rxBody (b : Byte) : (s.appendBody b).rxBody = s.rxBody ++ [b] := rfl
@[simp] theorem appendBody_warn (b : Byte) : (s.appendBody b).warn = s.warn := rfl
@[simp] theorem appendBody_result (b : Byte) : (s.appendBody b).result = s.result := rfl
@[simp] theorem appendBody_resultValid (b : Byte) : (s.appendBody b).resultValid = s.resultValid := rfl
@[simp] theorem appendBody_reqBroadcast (b : Byte) : (s.appendBody b).reqBroadcast = s.reqBroadcast := rfl
@[simp] theorem appendBody_reqConfirm (b : Byte) : (s.appendBody b).reqConfirm = s.reqConfirm := rfl
@[simp] theorem appendBody_hostRequests (b : Byte) : (s.appendBody b).hostRequests = s.hostRequests := rfl
@[simp] theorem appendBody_resetInput (b : Byte) : (s.appendBody b).resetInput = s.resetInput := rfl
@[simp] theorem appendBody_openAnswers (b : Byte) : (s.appendBody b).openAnswers = s.openAnswers := rfl
@[simp] theorem appendBody_writeAnswers (b : Byte) : (s.appendBody b).writeAnswers = s.writeAnswers := rfl
@[simp] theorem appendBody_rxStream (b : Byte) : (s.appendBody b).rxStream = s.rxStream := rfl
@[simp] theorem appendBody_calls (b : Byte) : (s.appendBody b).calls = s.calls := rfl
@[simp] theorem appendBody_draws (b : Byte) : (s.appendBody b).draws = s.draws := rfl

@[simp] theorem sampleReset_cfg : (s.sampleReset).cfg = s.cfg := rfl
@[simp] theorem sampleReset_link : (s.sampleReset).link = s.link := rfl
@[simp] theorem sampleReset_phase : (s.sampleReset).phase = s.phase := rfl
@[simp] theorem sampleReset_pendOp : (s.sampleReset).pendOp = s.pendOp := rfl
@[simp] theorem sampleReset_pendFrame : (s.sampleReset).pendFrame = s.pendFrame := rfl
@[simp] theorem sampleReset_rxLen : (s.sampleReset).rxLen = s.rxLen := rfl
@[simp] theorem sampleReset_rxBody : (s.sampleReset).rxBody = s.rxBody := rfl
@[simp] theorem sampleReset_warn : (s.sampleReset).warn = s.warn := rfl
@[simp] theorem sampleReset_result : (s.sampleReset).result = s.result := rfl
@[simp] theorem sampleReset_resultValid : (s.sampleReset).resultValid = s.resultValid := rfl
@[simp] theorem sampleReset_reqBroadcast : (s.sampleReset).reqBroadcast = s.reqBroadcast := rfl
@[simp] theorem sampleReset_reqConfirm : (s.sampleReset).reqConfirm = s.reqConfirm := rfl
@[simp] theorem sampleReset_hostRequests : (s.sampleReset).hostRequests = s.hostRequests := rfl
@[simp] theorem sampleReset_resetInput : (s.sampleReset).resetInput = s.resetInput.tail := rfl
@[simp] theorem sampleReset_openAnswers : (s.sampleReset).openAnswers = s.openAnswers := rfl
@[simp] theorem sampleReset_writeAnswers : (s.sampleReset).writeAnswers = s.writeAnswers := rfl
@[simp] theorem sampleReset_rxStream : (s.sampleReset).rxStream = s.rxStream := rfl
@[simp] theorem sampleReset_calls : (s.sampleReset).calls = s.calls := rfl
@[simp] theorem sampleReset_draws : (s.sampleReset).draws = s.draws := rfl

@[simp] theorem takeRequest_cfg (later : List Request) : (s.takeRequest later).cfg = s.cfg := rfl
@[simp] theorem takeRequest_link (later : List Request) : (s.takeRequest later).link = s.link := rfl
@[simp] theorem takeRequest_phase (later : List Request) : (s.takeRequest later).phase = s.phase := rfl
@[simp] theorem takeRequest_pendOp (later : List Request) : (s.takeRequest later).pendOp = s.pendOp := rfl
@[simp] theorem takeRequest_pendFrame (later : List Request) : (s.takeRequest later).pendFrame = s.pendFrame := rfl
@[simp] theorem takeRequest_rxLen (later : List Request) : (s.takeRequest later).rxLen = s.rxLen := rfl
@[simp] theorem takeRequest_rxBody (later : List Request) : (s.takeRequest later).rxBody = s.rxBody := rfl
@[simp] theorem takeRequest_warn (later : List Request) : (s.takeRequest later).warn = s.warn := rfl
@[simp] theorem takeRequest_result (later : List Request) : (s.takeRequest later).result = s.result := rfl
@[simp] theorem takeRequest_resultValid (later : List Request) : (s.takeRequest later).resultValid = s.resultValid := rfl
@[simp] theorem takeRequest_reqBroadcast (later : List Request) : (s.takeRequest later).reqBroadcast = s.reqBroadcast := rfl
@[simp] theorem takeRequest_reqConfirm (later : List Request) : (s.takeRequest later).reqConfirm = s.reqConfirm := rfl
@[simp] theorem takeRequest_hostRequests (later : List Request) : (s.takeRequest later).hostRequests = later := rfl
@[simp] theorem takeRequest_resetInput (later : List Request) : (s.takeRequest later).resetInput = s.resetInput := rfl
@[simp] theorem takeRequest_openAnswers (later : List Request) : (s.takeRequest later).openAnswers = s.openAnswers := rfl
@[simp] theorem takeRequest_writeAnswers (later : List Request) : (s.takeRequest later).writeAnswers = s.writeAnswers := rfl
@[simp] theorem takeRequest_rxStream (later : List Request) : (s.takeRequest later).rxStream = s.rxStream := rfl
@[simp] theorem takeRequest_calls (later : List Request) : (s.takeRequest later).calls = s.calls := rfl
@[simp] theorem takeRequest_draws (later : List Request) : (s.takeRequest later).draws = s.draws := rfl

@[simp] theorem takeOpenAnswer_cfg (later : List OpenAnswer) : (s.takeOpenAnswer later).cfg = s.cfg := rfl
@[simp] theorem takeOpenAnswer_link (later : List OpenAnswer) : (s.takeOpenAnswer later).link = s.link := rfl
@[simp] theorem takeOpenAnswer_phase (later : List OpenAnswer) : (s.takeOpenAnswer later).phase = s.phase := rfl
@[simp] theorem takeOpenAnswer_pendOp (later : List OpenAnswer) : (s.takeOpenAnswer later).pendOp = s.pendOp := rfl
@[simp] theorem takeOpenAnswer_pendFrame (later : List OpenAnswer) : (s.takeOpenAnswer later).pendFrame = s.pendFrame := rfl
@[simp] theorem takeOpenAnswer_rxLen (later : List OpenAnswer) : (s.takeOpenAnswer later).rxLen = s.rxLen := rfl
@[simp] theorem takeOpenAnswer_rxBody (later : List OpenAnswer) : (s.takeOpenAnswer later).rxBody = s.rxBody := rfl
@[simp] theorem takeOpenAnswer_warn (later : List OpenAnswer) : (s.takeOpenAnswer later).warn = s.warn := rfl
@[simp] theorem takeOpenAnswer_result (later : List OpenAnswer) : (s.takeOpenAnswer later).result = s.result := rfl
@[simp] theorem takeOpenAnswer_resultValid (later : List OpenAnswer) : (s.takeOpenAnswer later).resultValid = s.resultValid := rfl
@[simp] theorem takeOpenAnswer_reqBroadcast (later : List OpenAnswer) : (s.takeOpenAnswer later).reqBroadcast = s.reqBroadcast := rfl
@[simp] theorem takeOpenAnswer_reqConfirm (later : List OpenAnswer) : (s.takeOpenAnswer later).reqConfirm = s.reqConfirm := rfl
@[simp] theorem takeOpenAnswer_hostRequests (later : List OpenAnswer) : (s.takeOpenAnswer later).hostRequests = s.hostRequests := rfl
@[simp] theorem takeOpenAnswer_resetInput (later : List OpenAnswer) : (s.takeOpenAnswer later).resetInput = s.resetInput := rfl
@[simp] theorem takeOpenAnswer_openAnswers (later : List OpenAnswer) : (s.takeOpenAnswer later).openAnswers = later := rfl
@[simp] theorem takeOpenAnswer_writeAnswers (later : List OpenAnswer) : (s.takeOpenAnswer later).writeAnswers = s.writeAnswers := rfl
@[simp] theorem takeOpenAnswer_rxStream (later : List OpenAnswer) : (s.takeOpenAnswer later).rxStream = s.rxStream := rfl
@[simp] theorem takeOpenAnswer_calls (later : List OpenAnswer) : (s.takeOpenAnswer later).calls = s.calls := rfl
@[simp] theorem takeOpenAnswer_draws (later : List OpenAnswer) : (s.takeOpenAnswer later).draws = s.draws := rfl

@[simp] theorem takeWriteAnswer_cfg (later : List WriteAnswer) : (s.takeWriteAnswer later).cfg = s.cfg := rfl
@[simp] theorem takeWriteAnswer_link (later : List WriteAnswer) : (s.takeWriteAnswer later).link = s.link := rfl
@[simp] theorem takeWriteAnswer_phase (later : List WriteAnswer) : (s.takeWriteAnswer later).phase = s.phase := rfl
@[simp] theorem takeWriteAnswer_pendOp (later : List WriteAnswer) : (s.takeWriteAnswer later).pendOp = s.pendOp := rfl
@[simp] theorem takeWriteAnswer_pendFrame (later : List WriteAnswer) : (s.takeWriteAnswer later).pendFrame = s.pendFrame := rfl
@[simp] theorem takeWriteAnswer_rxLen (later : List WriteAnswer) : (s.takeWriteAnswer later).rxLen = s.rxLen := rfl
@[simp] theorem takeWriteAnswer_rxBody (later : List WriteAnswer) : (s.takeWriteAnswer later).rxBody = s.rxBody := rfl
@[simp] theorem takeWriteAnswer_warn (later : List WriteAnswer) : (s.takeWriteAnswer later).warn = s.warn := rfl
@[simp] theorem takeWriteAnswer_result (later : List WriteAnswer) : (s.takeWriteAnswer later).result = s.result := rfl
@[simp] theorem takeWriteAnswer_resultValid (later : List WriteAnswer) : (s.takeWriteAnswer later).resultValid = s.resultValid := rfl
@[simp] theorem takeWriteAnswer_reqBroadcast (later : List WriteAnswer) : (s.takeWriteAnswer later).reqBroadcast = s.reqBroadcast := rfl
@[simp] theorem takeWriteAnswer_reqConfirm (later : List WriteAnswer) : (s.takeWriteAnswer later).reqConfirm = s.reqConfirm := rfl
@[simp] theorem takeWriteAnswer_hostRequests (later : List WriteAnswer) : (s.takeWriteAnswer later).hostRequests = s.hostRequests := rfl
@[simp] theorem takeWriteAnswer_resetInput (later : List WriteAnswer) : (s.takeWriteAnswer later).resetInput = s.resetInput := rfl
@[simp] theorem takeWriteAnswer_openAnswers (later : List WriteAnswer) : (s.takeWriteAnswer later).openAnswers = s.openAnswers := rfl
@[simp] theorem takeWriteAnswer_writeAnswers (later : List WriteAnswer) : (s.takeWriteAnswer later).writeAnswers = later := rfl
@[simp] theorem takeWriteAnswer_rxStream (later : List WriteAnswer) : (s.takeWriteAnswer later).rxStream = s.rxStream := rfl
@[simp] theorem takeWriteAnswer_calls (later : List WriteAnswer) : (s.takeWriteAnswer later).calls = s.calls := rfl
@[simp] theorem takeWriteAnswer_draws (later : List WriteAnswer) : (s.takeWriteAnswer later).draws = s.draws := rfl

@[simp] theorem takeEvent_cfg (later : List RxEvent) : (s.takeEvent later).cfg = s.cfg := rfl
@[simp] theorem takeEvent_link (later : List RxEvent) : (s.takeEvent later).link = s.link := rfl
@[simp] theorem takeEvent_phase (later : List RxEvent) : (s.takeEvent later).phase = s.phase := rfl
@[simp] theorem takeEvent_pendOp (later : List RxEvent) : (s.takeEvent later).pendOp = s.pendOp := rfl
@[simp] theorem takeEvent_pendFrame (later : List RxEvent) : (s.takeEvent later).pendFrame = s.pendFrame := rfl
@[simp] theorem takeEvent_rxLen (later : List RxEvent) : (s.takeEvent later).rxLen = s.rxLen := rfl
@[simp] theorem takeEvent_rxBody (later : List RxEvent) : (s.takeEvent later).rxBody = s.rxBody := rfl
@[simp] theorem takeEvent_warn (later : List RxEvent) : (s.takeEvent later).warn = s.warn := rfl
@[simp] theorem takeEvent_result (later : List RxEvent) : (s.takeEvent later).result = s.result := rfl
@[simp] theorem takeEvent_resultValid (later : List RxEvent) : (s.takeEvent later).resultValid = s.resultValid := rfl
@[simp] theorem takeEvent_reqBroadcast (later : List RxEvent) : (s.takeEvent later).reqBroadcast = s.reqBroadcast := rfl
@[simp] theorem takeEvent_reqConfirm (later : List RxEvent) : (s.takeEvent later).reqConfirm = s.reqConfirm := rfl
@[simp] theorem takeEvent_hostRequests (later : List RxEvent) : (s.takeEvent later).hostRequests = s.hostRequests := rfl
@[simp] theorem takeEvent_resetInput (later : List RxEvent) : (s.takeEvent later).resetInput = s.resetInput := rfl
@[simp] theorem takeEvent_openAnswers (later : List RxEvent) : (s.takeEvent later).openAnswers = s.openAnswers := rfl
@[simp] theorem takeEvent_writeAnswers (later : List RxEvent) : (s.takeEvent later).writeAnswers = s.writeAnswers := rfl
@[simp] theorem takeEvent_rxStream (later : List RxEvent) : (s.takeEvent later).rxStream = later := rfl
@[simp] theorem takeEvent_calls (later : List RxEvent) : (s.takeEvent later).calls = s.calls := rfl
@[simp] theorem takeEvent_draws (later : List RxEvent) : (s.takeEvent later).draws = s.draws := rfl

end Sys2Proof.Machine.State
end

