-- ==== Sys2Proof/Laws/Ops.lean ====
section
/-! SUPPORT. What each shared operation can do, said once. -/

namespace Sys2Proof.Machine

/-- `CompletedFrom`, field by field: the four fields completion sets, and the ten it keeps. -/
theorem completedFrom_iff (s t : State) (r : Result) (w : Warn) :
    CompletedFrom s t r w ↔
      (t.result = r ∧ t.resultValid = true ∧ t.phase = .idle ∧ t.warn = w) ∧
      t.cfg = s.cfg ∧ t.link = s.link ∧ t.reqBroadcast = s.reqBroadcast ∧ t.reqConfirm = s.reqConfirm ∧
      t.hostRequests = s.hostRequests ∧ t.resetInput = s.resetInput ∧ t.openAnswers = s.openAnswers ∧
      t.writeAnswers = s.writeAnswers ∧ t.rxStream = s.rxStream ∧ t.calls = s.calls := by
  constructor
  · rintro ⟨op, frame, len, body, n, rfl⟩
    simp
  · rintro ⟨⟨h1, h2, h3, h4⟩, h5, h6, h7, h8, h9, h10, h11, h12, h13, h14⟩
    exact ⟨t.pendOp, t.pendFrame, t.rxLen, t.rxBody, t.draws, by
      apply State.ext <;> first | rfl | assumption⟩

/-- Completion changes what `CompletedFrom` says, and nothing else (R203). -/
theorem State.complete_from (s : State) (r : Result) : CompletedFrom s (s.complete r) r (r.warnings.getD s.warn) :=
  ⟨_, _, _, _, _, rfl⟩

/-- Acceptance followed by completion, for a result that carries no warning set (R190, R203). -/
theorem State.accept_complete_from (s : State) {r : Result} (h : r.warnings = none) :
    CompletedFrom s (s.accept.complete r) r 0#2 := by
  have hw : r.warnings.getD s.accept.warn = 0#2 := by simp [h]
  refine ⟨(s.accept.complete r).pendOp, (s.accept.complete r).pendFrame, (s.accept.complete r).rxLen,
    (s.accept.complete r).rxBody, (s.accept.complete r).draws, ?_⟩
  rw [← hw]
  rfl

/-- Acceptance followed by the latching of a payload that fits a frame (R190, R194). -/
theorem State.accept_launch_ok (s : State) {p : Bytes} (h : p.length ≤ 253) :
    LaunchedFrom s (s.accept.launch (.ok p)) (byteAt p 0) p := by
  have hb := (buildFrame_ok_iff (broadcast := s.accept.reqBroadcast)).mpr ⟨h, rfl⟩
  refine ⟨Config.freeResult s.draws, s.draws + 1, ?_⟩
  simp only [State.launch, hb]
  rfl

/-- A payload that does not fit completes with FrameTooLong (R103, R194). -/
theorem State.launch_overlong (s : State) {p : Bytes} (h : 253 < p.length) :
    s.launch (.ok p) = s.complete (.validationError .frameTooLong) := by
  simp [State.launch, buildFrame_eq, h]

/-- Every command's meaning is the exchange of its own encoder. -/
theorem exec_eq (i : Instr) (s : State) :
    exec i s = .next (s.exchange fun cfg confirm => encodeCommand cfg i confirm) := by
  cases i <;> rfl

/-- Completion with a warning set, from a state with its inputs or calls advanced (R203). -/
theorem State.complete_from_of {s c : State} {r : Result} {w : Warn} (h : c = s) (hw : r.warnings.getD s.warn = w) :
    CompletedFrom s (c.complete r) r w := by
  subst h hw
  exact c.complete_from r

theorem State.exchange_busy (s : State) (e : Cfg → Bool → EncodeOutcome) (h : s.phase ≠ .idle) : s.exchange e = s := by
  unfold State.exchange
  split <;> simp_all

theorem State.exchange_closed (s : State) (e : Cfg → Bool → EncodeOutcome) (h : s.phase = .idle) (hl : s.link = .closed) :
    s.exchange e = s.accept.complete (.transportError .notOpen) := by
  simp [State.exchange, h, hl]

theorem State.exchange_open (s : State) (e : Cfg → Bool → EncodeOutcome) (h : s.phase = .idle) (hl : s.link = .opened) :
    s.exchange e = s.accept.launch (e s.cfg s.reqConfirm) := by
  simp [State.exchange, h, hl]

/-- What can follow an encoder's outcome (R194): completion with a ValidationError or the warning, or a latched frame. -/
theorem State.launch_cases (s : State) (o : EncodeOutcome) :
    (∃ r, s.launch o = s.complete (.validationError r) ∧ (o = .err r ∨ ∃ p, o = .ok p ∧ 253 < p.length ∧ r = .frameTooLong)) ∨
    (∃ m a c, o = .warn m a c ∧ s.launch o = s.complete (.destructiveWriteWarning m a c)) ∨
    (∃ p, o = .ok p ∧ p.length ≤ 253 ∧ s.launch o = s.latch (byteAt p 0) (specFrame p s.reqBroadcast)) := by
  cases o with
  | err r => exact .inl ⟨r, rfl, .inl rfl⟩
  | warn m a c => exact .inr (.inl ⟨m, a, c, rfl, rfl⟩)
  | ok p =>
    by_cases h : 253 < p.length
    · exact .inl ⟨_, s.launch_overlong h, .inr ⟨p, rfl, h, rfl⟩⟩
    · refine .inr (.inr ⟨p, rfl, by omega, ?_⟩)
      have hb := (buildFrame_ok_iff (broadcast := s.reqBroadcast)).mpr ⟨(by omega : p.length ≤ 253), rfl⟩
      simp only [State.launch, hb]

/-- What offering a command can do (R193, R194, R205), said once. -/
theorem State.exchange_cases (s : State) (e : Cfg → Bool → EncodeOutcome) :
    (s.phase ≠ .idle ∧ s.exchange e = s) ∨
    (s.phase = .idle ∧ s.link = .closed ∧ s.exchange e = s.accept.complete (.transportError .notOpen)) ∨
    (s.phase = .idle ∧ s.link = .opened ∧ s.exchange e = s.accept.launch (e s.cfg s.reqConfirm)) := by
  by_cases h : s.phase = .idle
  · cases hl : s.link
    · exact .inr (.inl ⟨h, rfl, s.exchange_closed e h hl⟩)
    · exact .inr (.inr ⟨h, rfl, s.exchange_open e h hl⟩)
  · exact .inl ⟨h, s.exchange_busy e h⟩

/-- What offering a command leads to, read backwards from the next state. -/
theorem exec_inv {i : Instr} {s t : State} (h : exec i s = .next t) :
    (s.phase ≠ .idle ∧ t = s) ∨
    (s.phase = .idle ∧ s.link = .closed ∧ t = s.accept.complete (.transportError .notOpen)) ∨
    (s.phase = .idle ∧ s.link = .opened ∧ t = s.accept.launch (encodeCommand s.cfg i s.reqConfirm)) := by
  rw [exec_eq] at h
  injection h with h
  subst h
  exact s.exchange_cases _

end Sys2Proof.Machine
end

