-- ==== Sys2Proof/Laws/PerInstr.lean ====
section
/-! SUPPORT. Facts stated per command (LAWS.json). `PayloadShape` is the table of 30_encoding.md R74 read as two columns:
the payload of an encodable command begins with its opcode (R84) and has the length `n` of its row. -/

namespace Sys2Proof.Laws.PayloadShape

open Machine

/-- The payload begins with the opcode, and an encodable command's payload has the length of its row in R74. -/
def Statement (i : Instr) : Prop :=
  (encode i).head? = some i.opcode ∧ (i.encodable = true → (encode i).length = i.payloadLength)

theorem reset : Statement .reset := ⟨rfl, fun _ => rfl⟩

theorem read (m a c : Byte) : Statement (.read m a c) := ⟨rfl, fun _ => rfl⟩

theorem write (m : Byte) (pw : Bytes) (a c : Byte) (d : Bytes) : Statement (.write m pw a c d) := by
  refine ⟨rfl, fun h => ?_⟩
  simp [Instr.encodable, Instr.passwordChecked, Instr.dataChecked, passwordLengthOk, dataLengthOk,
    Config.passwordLen, Config.wordBytes] at h
  simp [encode, Instr.payloadLength, h]
  omega

theorem inventory (r : Byte) : Statement (.inventory r) := ⟨rfl, fun _ => rfl⟩

theorem buzzer (m : Byte) : Statement (.buzzer m) := ⟨rfl, fun _ => rfl⟩

theorem getid : Statement .getid := ⟨rfl, fun _ => rfl⟩

end Sys2Proof.Laws.PayloadShape
end

