-- ==== Sys2Proof/Laws/Rendering.lean ====
section
/-! SUPPORT. Facts about the display forms. -/

namespace Sys2Proof.Machine

/-- The code point of a hexadecimal digit (R107). -/
theorem hexDigit_toNat (x : Fin 16) : (hexDigit x).toNat = if x.val < 10 then 48 + x.val else 55 + x.val := by
  revert x
  decide

/-- Different digits are rendered differently. -/
theorem hexDigit_inj {x y : Nat} (hx : x < 16) (hy : y < 16) (h : hexDigit x = hexDigit y) : x = y := by
  have e := congrArg Char.toNat h
  have ex := hexDigit_toNat ⟨x, hx⟩
  have ey := hexDigit_toNat ⟨y, hy⟩
  dsimp only at ex ey
  rw [ex, ey] at e
  split at e <;> split at e <;> omega

end Sys2Proof.Machine
end

