-- ==== Sys2Proof/Laws/ResponseDecoder.lean ====
section
/-! SUPPORT. What the response decoder can answer, said once. -/

namespace Sys2Proof.Machine

/-- The layouts and their outcomes (R156 to R166): an error response, a malformed body, or the pending opcode's own form. -/
theorem decodeLayout_cases (cfg : Cfg) (op len : Byte) (body : Bytes) (w : Warn) :
    (len = 4#8 ∧ decodeLayout cfg op len body w =
      .errorResponse (catalog cfg (byteAt body 2)) (byteAt body 2) (byteAt body 0) (byteAt body 1) w) ∨
    (∃ dl rl, (op = 0x81#8 ∨ op = 0x82#8) ∧ decodeLayout cfg op len body w = malformed len dl rl body) ∨
    (∃ r : ReadFields, op = 0x81#8 ∧ r.warn = w ∧ decodeLayout cfg op len body w = .readResult r) ∨
    (∃ r : WriteFields, op = 0x82#8 ∧ r.warn = w ∧ decodeLayout cfg op len body w = .writeResult r) ∨
    (op ≠ 0x81#8 ∧ op ≠ 0x82#8 ∧ decodeLayout cfg op len body w =
      .rawResponse (byteAt body 0) (byteAt body 1) (slice body 2 (len.toNat - 2)) w) := by
  by_cases h4 : len.toNat = 4
  · exact .inl ⟨BitVec.eq_of_toNat_eq h4, by simp [decodeLayout, Config.errorStatusLen, h4, decodeErrorBody]⟩
  by_cases hr : op = 0x81#8
  · have e : decodeLayout cfg op len body w = decodeReadBody len body w := by
      simp [decodeLayout, Config.errorStatusLen, h4, Config.opRead, hr]
    rw [e]
    unfold decodeReadBody
    dsimp only
    split_ifs
    · exact .inr (.inl ⟨_, _, .inl hr, rfl⟩)
    · exact .inr (.inl ⟨_, _, .inl hr, rfl⟩)
    · exact .inr (.inl ⟨_, _, .inl hr, rfl⟩)
    · exact .inr (.inr (.inl ⟨_, hr, rfl, rfl⟩))
  by_cases hw : op = 0x82#8
  · have e : decodeLayout cfg op len body w = decodeWriteBody cfg len body w := by
      simp [decodeLayout, Config.errorStatusLen, h4, Config.opRead, Config.opWrite, hw]
    rw [e]
    unfold decodeWriteBody
    dsimp only
    split_ifs
    · exact .inr (.inl ⟨_, _, .inr hw, rfl⟩)
    · exact .inr (.inl ⟨_, _, .inr hw, rfl⟩)
    · exact .inr (.inl ⟨_, _, .inr hw, rfl⟩)
    · exact .inr (.inr (.inr (.inl ⟨_, hw, rfl, rfl⟩)))
  · exact .inr (.inr (.inr (.inr ⟨hr, hw, by
      simp [decodeLayout, Config.errorStatusLen, h4, Config.opRead, Config.opWrite, hr, hw, decodeRawBody]⟩)))

end Sys2Proof.Machine
end

