-- ==== Sys2Proof/Laws/Step.lean ====
section
/-! SUPPORT. What one step can do, said once: the cases of the sequencer and of a receive event. -/

namespace Sys2Proof.Machine

/-- The cases of a receive event (R151 to R153, R197, R199), of the state whose read call is recorded. -/
theorem State.receive_cases (s : State) (e : RxEvent) (h : s.phase.receives = true) :
    let c := s.call (.readCall 1 s.cfg.byteTimeout)
    (e = .timeout ∧ s.receive e = c.complete (.transportError (.timeout s.phase s.received))) ∨
    (e = .disconnected ∧
      s.receive e = c.complete (.transportError (.disconnected (.receiving s.phase s.received)))) ∨
    (s.phase = .rxHeader ∧ e = .byte 0xA0#8 ∧ s.receive e = { c with phase := .rxLength }) ∨
    (∃ b, s.phase = .rxHeader ∧ e = .byte b ∧ b ≠ 0xA0#8 ∧
      s.receive e = c.complete (.protocolError (.badHeader b))) ∨
    (s.phase = .rxLength ∧ e = .byte 0#8 ∧ s.receive e = (c.startBody 0#8).finish) ∨
    (∃ b, s.phase = .rxLength ∧ e = .byte b ∧ b ≠ 0#8 ∧ s.receive e = { c.startBody b with phase := .rxBody }) ∨
    (∃ b, s.phase = .rxBody ∧ e = .byte b ∧ s.rxBody.length + 1 = s.rxLen.toNat ∧
      s.receive e = (c.appendBody b).finish) ∨
    (∃ b, s.phase = .rxBody ∧ e = .byte b ∧ s.rxBody.length + 1 ≠ s.rxLen.toNat ∧
      s.receive e = c.appendBody b) := by
  intro c
  cases e with
  | timeout => exact .inl ⟨rfl, rfl⟩
  | disconnected => exact .inr (.inl ⟨rfl, rfl⟩)
  | byte b =>
    refine .inr (.inr ?_)
    cases hp : s.phase with
    | idle => simp [hp, Phase.receives] at h
    | transmit => simp [hp, Phase.receives] at h
    | rxHeader =>
      by_cases hb : b = 0xA0#8
      · subst hb
        exact .inl ⟨rfl, rfl, by simp [State.receive, State.byteEvent, hp, State.headerByte, Config.header, c]⟩
      · exact .inr (.inl ⟨b, rfl, rfl, hb, by
          simp [State.receive, State.byteEvent, hp, State.headerByte, Config.header, hb, c]⟩)
    | rxLength =>
      by_cases hb : b = 0#8
      · subst hb
        exact .inr (.inr (.inl ⟨rfl, rfl, by simp [State.receive, State.byteEvent, hp, State.lengthByte, c]⟩))
      · exact .inr (.inr (.inr (.inl ⟨b, rfl, rfl, hb, by
          simp [State.receive, State.byteEvent, hp, State.lengthByte, hb, c]⟩)))
    | rxBody =>
      by_cases hb : s.rxBody.length + 1 = s.rxLen.toNat
      · exact .inr (.inr (.inr (.inr (.inl ⟨b, rfl, rfl, hb, by
          simp [State.receive, State.byteEvent, hp, State.bodyByte, hb, c]⟩))))
      · exact .inr (.inr (.inr (.inr (.inr ⟨b, rfl, rfl, hb, by
          simp [State.receive, State.byteEvent, hp, State.bodyByte, hb, c]⟩))))

theorem step_reset (s : State) (h : s.resetAsserted = true) : step s = .next s.sampleReset.engineReset := by
  simp [step, sequencerStep, h]

theorem step_running (s : State) (h : s.resetAsserted = false) : step s = engineStep s.sampleReset := by
  simp [step, sequencerStep, h]

/-- The engine has nothing to take from the port its phase listens to (I16, I17). -/
def State.Starved (s : State) : Prop :=
  (s.phase = .idle ∧ (s.hostRequests = [] ∨ (∃ p b l rest, s.hostRequests = .openLink p b l :: rest) ∧ s.openAnswers = [])) ∨
  (s.phase = .transmit ∧ s.writeAnswers = []) ∨
  (s.phase.receives = true ∧ s.rxStream = [])

/-- What one step of the engine proper can do: rest, run the host's next request in Idle, hand the frame over in Transmit,
or take one event in a receive phase. -/
theorem engineStep_cases (s : State) :
    (s.Starved ∧ engineStep s = .next s) ∨
    (∃ p b l rest a later, s.phase = .idle ∧ s.hostRequests = .openLink p b l :: rest ∧ s.openAnswers = a :: later ∧
      engineStep s = .next (((s.takeRequest rest).takeOpenAnswer later).openLink p b l a)) ∨
    (∃ rest, s.phase = .idle ∧ s.hostRequests = .closeLink :: rest ∧
      engineStep s = .next ((s.takeRequest rest).closeLink)) ∨
    (∃ i b c rest, s.phase = .idle ∧ s.hostRequests = .exchange i b c :: rest ∧
      engineStep s = exec i (s.present rest b c)) ∨
    (∃ a later, s.phase = .transmit ∧ s.writeAnswers = a :: later ∧
      engineStep s = .next ((s.takeWriteAnswer later).transmit a)) ∨
    (∃ e later, s.phase.receives = true ∧ s.rxStream = e :: later ∧
      engineStep s = .next ((s.takeEvent later).receive e)) := by
  have receiving : ∀ hr : s.phase.receives = true, engineStep s = receiveStep s := by
    intro hr
    cases hp : s.phase <;> simp [hp, Phase.receives] at hr <;> simp [engineStep, hp]
  cases hp : s.phase with
  | idle =>
    have hs : engineStep s = idleStep s := by simp [engineStep, hp]
    rcases hh : s.hostRequests with _ | ⟨r, rest⟩
    · exact .inl ⟨.inl ⟨hp, .inl hh⟩, by simp [hs, idleStep, hh]⟩
    · cases r with
      | openLink p b l =>
        rcases ho : s.openAnswers with _ | ⟨a, later⟩
        · exact .inl ⟨.inl ⟨hp, .inr ⟨⟨p, b, l, rest, hh⟩, ho⟩⟩, by simp [hs, idleStep, hh, ho]⟩
        · exact .inr (.inl ⟨p, b, l, rest, a, later, rfl, rfl, rfl, by simp [hs, idleStep, hh, ho]⟩)
      | closeLink => exact .inr (.inr (.inl ⟨rest, rfl, rfl, by simp [hs, idleStep, hh]⟩))
      | exchange i b c => exact .inr (.inr (.inr (.inl ⟨i, b, c, rest, rfl, rfl, by simp [hs, idleStep, hh]⟩)))
  | transmit =>
    have hs : engineStep s = transmitStep s := by simp [engineStep, hp]
    rcases hw : s.writeAnswers with _ | ⟨a, later⟩
    · exact .inl ⟨.inr (.inl ⟨hp, hw⟩), by simp [hs, transmitStep, hw]⟩
    · exact .inr (.inr (.inr (.inr (.inl ⟨a, later, rfl, rfl, by simp [hs, transmitStep, hw]⟩))))
  | rxHeader | rxLength | rxBody =>
    have hs := receiving (by simp [hp, Phase.receives])
    rcases hr : s.rxStream with _ | ⟨e, later⟩
    · exact .inl ⟨.inr (.inr ⟨by simp [hp, Phase.receives], hr⟩), by simp [hs, receiveStep, hr]⟩
    · exact .inr (.inr (.inr (.inr (.inr ⟨e, later, by simp [Phase.receives], rfl, by simp [hs, receiveStep, hr]⟩))))

/-- A step with a next state: engine reset, or a step of the engine proper. -/
theorem step_inv {s t : State} (h : step s = .next t) :
    (s.resetAsserted = true ∧ t = s.sampleReset.engineReset) ∨
    (s.resetAsserted = false ∧ engineStep s.sampleReset = .next t) := by
  cases hr : s.resetAsserted
  · exact .inr ⟨rfl, by rw [← step_running s hr]; exact h⟩
  · rw [step_reset s hr] at h
    injection h with h
    exact .inl ⟨rfl, h.symm⟩

/-- `engineStep_cases`, read backwards from the next state. -/
theorem engineStep_inv {s t : State} (h : engineStep s = .next t) :
    (s.Starved ∧ t = s) ∨
    (∃ p b l rest a later, s.phase = .idle ∧ s.hostRequests = .openLink p b l :: rest ∧ s.openAnswers = a :: later ∧
      t = ((s.takeRequest rest).takeOpenAnswer later).openLink p b l a) ∨
    (∃ rest, s.phase = .idle ∧ s.hostRequests = .closeLink :: rest ∧ t = (s.takeRequest rest).closeLink) ∨
    (∃ i b c rest, s.phase = .idle ∧ s.hostRequests = .exchange i b c :: rest ∧
      exec i (s.present rest b c) = .next t) ∨
    (∃ a later, s.phase = .transmit ∧ s.writeAnswers = a :: later ∧ t = (s.takeWriteAnswer later).transmit a) ∨
    (∃ e later, s.phase.receives = true ∧ s.rxStream = e :: later ∧ t = (s.takeEvent later).receive e) := by
  rcases engineStep_cases s with ⟨g, e⟩ | ⟨p, b, l, rest, a, later, h1, h2, h3, g⟩ | ⟨rest, h1, h2, g⟩ |
    ⟨i, b, c, rest, h1, h2, g⟩ | ⟨a, later, h1, h2, g⟩ | ⟨e, later, h1, h2, g⟩
  · rw [e] at h; injection h with h; exact .inl ⟨g, h.symm⟩
  · rw [g] at h; injection h with h; exact .inr (.inl ⟨p, b, l, rest, a, later, h1, h2, h3, h.symm⟩)
  · rw [g] at h; injection h with h; exact .inr (.inr (.inl ⟨rest, h1, h2, h.symm⟩))
  · exact .inr (.inr (.inr (.inl ⟨i, b, c, rest, h1, h2, g ▸ h⟩)))
  · rw [g] at h; injection h with h; exact .inr (.inr (.inr (.inr (.inl ⟨a, later, h1, h2, h.symm⟩))))
  · rw [g] at h; injection h with h; exact .inr (.inr (.inr (.inr (.inr ⟨e, later, h1, h2, h.symm⟩))))

/-- A step of a receive phase that has an event takes it. -/
theorem step_receive {s : State} {e : RxEvent} {later : List RxEvent} (h : s.phase.receives = true)
    (hr : s.resetAsserted = false) (he : s.rxStream = e :: later) :
    step s = .next ((s.sampleReset.takeEvent later).receive e) := by
  rw [step_running s hr]
  cases hp : s.phase <;> simp [hp, Phase.receives] at h <;>
    simp only [engineStep, State.sampleReset_phase, hp, receiveStep, State.sampleReset_rxStream, he]

/-- A step of Transmit that has its answer takes it. -/
theorem step_transmit {s : State} {a : WriteAnswer} {later : List WriteAnswer} (h : s.phase = .transmit)
    (hr : s.resetAsserted = false) (ha : s.writeAnswers = a :: later) :
    step s = .next ((s.sampleReset.takeWriteAnswer later).transmit a) := by
  rw [step_running s hr]
  simp only [engineStep, State.sampleReset_phase, h, transmitStep, State.sampleReset_writeAnswers, ha]

/-- The operations OPEN and CLOSE and the write end in, by the transport's answer (R191, R192, R195). -/
theorem State.openLink_eq (s : State) (p : Text) (b l : Nat) (a : OpenAnswer) :
    s.openLink p b l a =
      match a with
      | .openOk => { s.accept.call (.openCall p b l) with link := .opened }.complete .done
      | .openFail => (s.accept.call (.openCall p b l)).complete (.transportError (.disconnected .opening)) := by
  cases a <;> rfl

theorem State.transmit_eq (s : State) (a : WriteAnswer) :
    s.transmit a =
      match a with
      | .writeOk => { s.call (.writeCall s.pendFrame) with phase := .rxHeader }
      | .writeFail => (s.call (.writeCall s.pendFrame)).complete (.transportError (.disconnected .transmitting)) := by
  cases a <;> rfl

theorem run_succ {s t : State} (n : Nat) (h : step s = .next t) : core.run (n + 1) s = core.run n t := by
  have hs : core.step s = step s := rfl
  simp only [Host.Core.run, hs, h]

/-- A reset input that is never asserted is not asserted now, nor later. -/
theorem resetAsserted_of_quiet {s : State} (h : ∀ x ∈ s.resetInput, x = false) :
    s.resetAsserted = false ∧ ∀ x ∈ s.resetInput.tail, x = false := by
  refine ⟨?_, fun x hx => h x (List.mem_of_mem_tail hx)⟩
  unfold State.resetAsserted
  cases hr : s.resetInput with
  | nil => rfl
  | cons a l => rw [hr] at h; exact h a (by simp)

/-- Whatever a receive event does, it records one read and leaves the stream, the link, the configuration and the other
ports alone (R57, R199). -/
theorem State.receive_frame (s : State) (e : RxEvent) (h : s.phase.receives = true) :
    (s.receive e).rxStream = s.rxStream ∧ (s.receive e).calls = s.calls ++ [.readCall 1 s.cfg.byteTimeout] ∧
    (s.receive e).link = s.link ∧ (s.receive e).cfg = s.cfg ∧ (s.receive e).hostRequests = s.hostRequests := by
  rcases State.receive_cases s e h with ⟨_, g⟩ | ⟨_, g⟩ | ⟨_, _, g⟩ | ⟨b, _, _, _, g⟩ | ⟨_, _, g⟩ | ⟨b, _, _, _, g⟩ |
    ⟨b, _, _, _, g⟩ | ⟨b, _, _, _, g⟩ <;> rw [g] <;> simp [State.finish]

end Sys2Proof.Machine
end

