-- ==== Sys2Proof/Machine/Assembler.lean ====
section
/-! DEFINITION. The textual form of a request (30_encoding.md R87), one request per line. Notation only: the engine
receives request records (R34), never text. -/

namespace Sys2Proof.Machine

/-- A token of a request line: a comma, or a run of characters that are neither blank nor comma. -/
inductive Token where
  | word (text : Text)
  | comma
  deriving DecidableEq, Repr

/-- Closes the word read so far (its characters stand in reverse order). -/
def closeWord (reversed : Text) : List Token :=
  if reversed = [] then [] else [.word reversed.reverse]

/-- The tokens of a line, with the characters of the word being read, in reverse order. -/
def tokensFrom : Text → Text → List Token
  | [], acc => closeWord acc
  | c :: rest, acc =>
    if c = ' ' then closeWord acc ++ tokensFrom rest []
    else if c = ',' then closeWord acc ++ .comma :: tokensFrom rest []
    else tokensFrom rest (c :: acc)

/-- The tokens of a line. -/
def tokens (line : Text) : List Token := tokensFrom line []

/-- The value of a hexadecimal digit of either case: its place among the sixteen. -/
def hexValue (c : Char) : Option Nat := hexDigits.findIdx? (· == c.toUpper)

/-- Digits in a base, most significant first, onto a value read so far. -/
def digitsValue (base : Nat) : Text → Nat → Option Nat
  | [], acc => some acc
  | c :: rest, acc =>
    match hexValue c with
    | none => none
    | some d => if d < base then digitsValue base rest (acc * base + d) else none

/-- A number, decimal or `0x`-prefixed hexadecimal (R87). -/
def parseNumber : Text → Option Nat
  | [] => none
  | '0' :: 'x' :: c :: rest => digitsValue 16 (c :: rest) 0
  | c :: rest => digitsValue 10 (c :: rest) 0

/-- A number that is a byte (R75). -/
def parseByte (t : Text) : Option Byte :=
  (parseNumber t).bind fun n => if n < 256 then some (BitVec.ofNat 8 n) else none

/-- Bytes written as pairs of hexadecimal digits. -/
def parseHexBytes : Text → Option Bytes
  | [] => some []
  | [_] => none
  | a :: b :: rest =>
    match hexValue a, hexValue b, parseHexBytes rest with
    | some x, some y, some s => some (BitVec.ofNat 8 (16 * x + y) :: s)
    | _, _, _ => none

/-- A bank: its name, which stands for its code, or a number 0..255 (R76, R87). -/
def parseBank (cfg : Cfg) (t : Text) : Option Byte :=
  if t = "Reserved".toList then some (Membank.code cfg .reserved)
  else if t = "EPC".toList then some (Membank.code cfg .epc)
  else if t = "TID".toList then some (Membank.code cfg .tid)
  else if t = "User".toList then some (Membank.code cfg .user)
  else parseByte t

/-- A buzzer mode name, which stands for its code (R77, R87). -/
def parseMode (cfg : Cfg) (t : Text) : Option Byte :=
  if t = "Quiet".toList then some (BuzzerMode.code cfg .quiet)
  else if t = "Round".toList then some (BuzzerMode.code cfg .round)
  else if t = "Tag".toList then some (BuzzerMode.code cfg .tag)
  else none

/-- The options that may end an EXCHANGE line, `bcast` and `confirm`, onto those read so far (R87). -/
def parseOptions : List Token → Bool → Bool → Option (Bool × Bool)
  | [], b, c => some (b, c)
  | .word w :: rest, b, c =>
    if w = "bcast".toList then parseOptions rest true c
    else if w = "confirm".toList then parseOptions rest b true
    else none
  | .comma :: _, _, _ => none

/-- An EXCHANGE request from its command and the options that end its line. -/
def withOptions (cmd : Option Instr) (options : List Token) : Option Request :=
  match cmd, parseOptions options false false with
  | some i, some (b, c) => some (.exchange i b c)
  | _, _ => none

/-- `open <port>, <baud>, <timeout>` (R87). -/
def parseOpen : List Token → Option Request
  | [.word port, .comma, .word baud, .comma, .word limit] =>
    match parseNumber baud, parseNumber limit with
    | some b, some t => some (.openLink port b t)
    | _, _ => none
  | _ => none

/-- `read <bank>, <word_address>, <word_cnt>` (R87). -/
def parseReadLine (cfg : Cfg) : List Token → Option Request
  | .word m :: .comma :: .word a :: .comma :: .word c :: options =>
    match parseBank cfg m, parseByte a, parseByte c with
    | some m, some a, some c => withOptions (some (.read m a c)) options
    | _, _, _ => none
  | _ => none

/-- The operand after `pw=` or `data=`. -/
def afterKey (key t : Text) : Option Text :=
  if key.isPrefixOf t then some (t.drop key.length) else none

/-- `write <bank>, <word_address>, <word_cnt>, pw=<hex>, data=<hex>` (R87). The lengths of pw and data are the
encoder's checks (R124, R125): a line of test program P3 writes a 3-byte password. -/
def parseWriteLine (cfg : Cfg) : List Token → Option Request
  | .word m :: .comma :: .word a :: .comma :: .word c :: .comma :: .word pw :: .comma :: .word d :: options =>
    match parseBank cfg m, parseByte a, parseByte c, (afterKey "pw=".toList pw).bind parseHexBytes,
        (afterKey "data=".toList d).bind parseHexBytes with
    | some m, some a, some c, some pw, some d => withOptions (some (.write m pw a c d)) options
    | _, _, _, _, _ => none
  | _ => none

/-- `inventory <repeat>`, or the pseudo-instruction `inventory`, which means `inventory 1` (R87, R133). -/
def parseInventoryLine : List Token → Option Request
  | .word w :: rest =>
    match parseByte w with
    | some r => withOptions (some (.inventory r)) rest
    | none => withOptions (some (.inventory Config.inventoryDefaultRepeat)) (.word w :: rest)
  | rest => withOptions (some (.inventory Config.inventoryDefaultRepeat)) rest

/-- `buzzer <Quiet|Round|Tag>` (R87). -/
def parseBuzzerLine (cfg : Cfg) : List Token → Option Request
  | .word w :: rest => withOptions ((parseMode cfg w).map .buzzer) rest
  | _ => none

/-- One request line (R87). -/
def parseRequest (cfg : Cfg) (line : Text) : Option Request :=
  match tokens line with
  | .word k :: rest =>
    if k = "open".toList then parseOpen rest
    else if k = "close".toList then (if rest = [] then some .closeLink else none)
    else if k = "reset".toList then withOptions (some .reset) rest
    else if k = "read".toList then parseReadLine cfg rest
    else if k = "write".toList then parseWriteLine cfg rest
    else if k = "inventory".toList then parseInventoryLine rest
    else if k = "buzzer".toList then parseBuzzerLine cfg rest
    else if k = "getid".toList then withOptions (some .getid) rest
    else none
  | _ => none

end Sys2Proof.Machine
end

