-- ==== Sys2Proof/Tests/Slice0.lean ====
section
/-! SUPPORT. The model's own tests. Expected values are the spec's: the tables of 95_test_vectors.md (cited as S1 to S12,
2.1 to 2.6, P1 to P6) and the encodings of 30_encoding.md R74. The last part shows, for every statement of
Certificates/Slice0/Obligations.lean that has hypotheses, concrete data that meet them, clause by clause. -/

namespace Sys2Proof.Tests

open Sys2Proof Sys2Proof.Machine

/-! ### Small states -/

/-- The defaults, with a known BYTE_TIMEOUT so that the kernel can evaluate the record. -/
def cfg0 : Cfg := { Config.defaults with byteTimeout := 10 }

/-- The defaults with CHECKSUM_POLICY = Reject. -/
def cfgReject : Cfg := { cfg0 with checksumPolicy := .reject }

/-- A configuration whose Reserved bank takes payloads longer than a frame. -/
def cfgWide : Cfg := { cfg0 with reservedWordLimit := 123 }

/-- Idle, link closed. -/
def closedIdle : State := { State.reset with cfg := cfg0 }

/-- Idle, link open. -/
def openIdle : State := { closedIdle with link := .opened }

/-- An exchange of Reset in a phase, its response read as far as `len` and `body` say. -/
def busy (phase : Phase) (len : Byte) (body : Bytes) : State :=
  { openIdle with
    phase := phase, pendOp := 0x70#8, pendFrame := [0xA0#8, 0x03#8, 0x01#8, 0x70#8, 0xEC#8], rxLen := len, rxBody := body }

/-- A check of the next state. -/
def next (o : Host.Outcome State Fault Refusal) (check : State → Bool) : Bool :=
  match o with
  | .next t => check t
  | _ => false

/-! ### Well-formedness: one ill-formed term per check -/

theorem test_membank_refused : (Instr.read 4#8 0#8 1#8).membankChecked = false := by decide

theorem test_range_refused : (Instr.read 2#8 10#8 3#8).rangeChecked cfg0 = false := by decide

theorem test_password_refused : (Instr.write 3#8 [0, 0, 0] 0#8 1#8 [0, 0]).passwordChecked = false := by decide

theorem test_data_refused : (Instr.write 3#8 [0, 0, 0, 0] 0#8 1#8 [0, 0, 0]).dataChecked = false := by decide

theorem test_mode_refused : (Instr.buzzer 3#8).modeChecked = false := by decide

theorem test_wellFormed_refuses :
    [Instr.read 4#8 0#8 1#8, .read 2#8 10#8 3#8, .write 3#8 [0, 0, 0] 0#8 1#8 [0, 0],
      .write 3#8 [0, 0, 0, 0] 0#8 1#8 [0, 0, 0], .buzzer 3#8].map (Instr.wellFormed cfg0) =
    [false, false, false, false, false] := by decide

/-! ### Decoding: words written out from R74 -/

theorem test_decode_reset : decode [0x70#8] = .ok (.reset, []) := by decide

theorem test_decode_getid : decode [0x68#8] = .ok (.getid, []) := by decide

theorem test_decode_inventory : decode [0x89#8, 0xFF#8] = .ok (.inventory 0xFF#8, []) := by decide

theorem test_decode_buzzer : decode [0x7A#8, 0x02#8] = .ok (.buzzer 2#8, []) := by decide

theorem test_decode_read : decode [0x81#8, 0x01#8, 0x02#8, 0x06#8] = .ok (.read 1#8 2#8 6#8, []) := by decide

/-- The EPC write of table 2.3. -/
theorem test_decode_write :
    decode [0x82#8, 0x11#8, 0x22#8, 0x33#8, 0x44#8, 0x01#8, 0x02#8, 0x02#8, 0xAA#8, 0xBB#8, 0xCC#8, 0xDD#8] =
      .ok (.write 1#8 [0x11#8, 0x22#8, 0x33#8, 0x44#8] 2#8 2#8 [0xAA#8, 0xBB#8, 0xCC#8, 0xDD#8], []) := by decide

/-- Opcodes outside the map, and reserved field codes, are refused by name (R85, R86). -/
theorem test_decode_rejects :
    decode [] = .error .noOpcode ∧ decode [0x83#8] = .error (.unknownOpcode 0x83#8) ∧
    decode [0x81#8, 0x04#8, 0#8, 1#8] = .error (.membankRange 4#8) ∧
    decode [0x7A#8, 0x03#8] = .error (.modeRange 3#8) ∧
    decode [0x81#8, 0x01#8] = .error (.truncated 0x81#8) := by decide

/-- Header, length, address and checksum of a frame are checked (R70 to R73). -/
theorem test_decodeFrame_rejects :
    decodeFrame [0xA1#8, 0x03#8, 0x01#8, 0x70#8, 0xEB#8] = .error (.badHeader 0xA1#8) ∧
    decodeFrame [0xA0#8, 0x04#8, 0x01#8, 0x70#8, 0xEB#8] = .error (.badLength 4#8) ∧
    decodeFrame [0xA0#8, 0x03#8, 0x02#8, 0x70#8, 0xEB#8] = .error (.badAddress 2#8) ∧
    decodeFrame [0xA0#8, 0x03#8, 0x01#8, 0x70#8, 0xED#8] = .error (.badChecksum 0xED#8) ∧
    decodeFrame [0xA0#8, 0x04#8, 0x01#8, 0x70#8, 0x00#8, 0xEB#8] = .error .trailingBytes := by decide

/-- Table words: bit 0 is the least significant bit of payload byte 0, and missing operand bytes are zeros. -/
theorem test_table_words :
    decodeTableWord 8 0x70 = some .reset ∧ decodeTableWord 16 0x027A = some (.buzzer 2#8) ∧
    decodeTableWord 32 0x020A0281 = some (.read 2#8 10#8 2#8) ∧
    decodeTableWord 64 0x0100030000000082 = some (.write 3#8 [0, 0, 0, 0] 0#8 1#8 [0, 0]) ∧
    decodeTableWord 8 0x83 = none := by decide

/-! ### One step per command (tables 2.3 and 2.5) -/

/-- P6 line 2: `getid bcast`. -/
theorem test_getid_frame :
    next (exec .getid { openIdle with reqBroadcast := true }) (fun t =>
      t.phase == .transmit && t.pendFrame == [0xA0#8, 0x03#8, 0xFF#8, 0x68#8, 0xF6#8]) = true := by decide

theorem test_reset_step :
    next (step (closedIdle.withFetchWord 8 0x70)) (fun t =>
      t.pendOp == 0x70#8 && t.pendFrame == [0xA0#8, 0x03#8, 0x01#8, 0x70#8, 0xEC#8]) = true := by decide

theorem test_inventory_step :
    next (step (closedIdle.withFetchWord 16 0x0189)) (fun t =>
      t.pendOp == 0x89#8 && t.pendFrame == [0xA0#8, 0x04#8, 0x01#8, 0x89#8, 0x01#8, 0xD1#8]) = true := by decide

theorem test_buzzer_step :
    next (exec (.buzzer 2#8) openIdle) (fun t =>
      t.pendFrame == [0xA0#8, 0x04#8, 0x01#8, 0x7A#8, 0x02#8, 0xDF#8]) = true := by decide

theorem test_buzzer_mode_range :
    next (exec (.buzzer 3#8) openIdle) (fun t =>
      t.phase == .idle && t.resultValid && t.result == .validationError .modeRange) = true := by decide

theorem test_read_step :
    next (exec (.read 2#8 10#8 2#8) openIdle) (fun t =>
      t.pendFrame == [0xA0#8, 0x06#8, 0x01#8, 0x81#8, 0x02#8, 0x0A#8, 0x02#8, 0xCA#8]) = true := by decide

/-- The word sum 510 is not wrapped (table 2.3). -/
theorem test_read_word_limit :
    next (exec (.read 2#8 255#8 255#8) openIdle) (fun t => t.result == .validationError .wordLimit) = true := by decide

/-- S10, confirmed. -/
theorem test_write_confirmed :
    next (exec (.write 1#8 [0, 0, 0, 0] 0#8 1#8 [0x30#8, 0#8]) { openIdle with reqConfirm := true }) (fun t =>
      t.pendFrame == [0xA0#8, 0x0C#8, 0x01#8, 0x82#8, 0, 0, 0, 0, 1#8, 0, 1#8, 0x30#8, 0#8, 0x9F#8]) = true := by decide

/-- S10, not confirmed. -/
theorem test_write_warns :
    next (exec (.write 1#8 [0, 0, 0, 0] 0#8 1#8 [0x30#8, 0#8]) openIdle) (fun t =>
      t.phase == .idle && t.result == .destructiveWriteWarning 1#8 0#8 1#8 && t.calls == []) = true := by decide

/-! ### One step of the other transitions (table 2.5) -/

/-- P1 line 1. -/
theorem test_open :
    next (step { closedIdle with hostRequests := [.openLink "x".toList 115200 1], openAnswers := [.openOk] }) (fun t =>
      t.link == .opened && t.result == .done && t.calls == [.openCall "x".toList 115200 1]) = true := by decide

/-- CLOSE when closed. -/
theorem test_close :
    next (step { closedIdle with hostRequests := [.closeLink] }) (fun t =>
      t.link == .closed && t.result == .done && t.resultValid) = true := by decide

/-- The write fails: no byte is read, and the link stays open. -/
theorem test_write_fails :
    next (step { busy .transmit 0#8 [] with writeAnswers := [.writeFail] }) (fun t =>
      t.result == .transportError (.disconnected .transmitting) && t.link == .opened) = true := by decide

/-- P4 line 2: the stale byte. -/
theorem test_bad_header :
    next (step { busy .rxHeader 0#8 [] with rxStream := [.byte 0xDB#8, .byte 0xA0#8] }) (fun t =>
      t.result == .protocolError (.badHeader 0xDB#8) && t.rxStream == [.byte 0xA0#8]) = true := by decide

/-- L = 0 is decided in RxLength. -/
theorem test_zero_length :
    next (step { busy .rxLength 0#8 [] with rxStream := [.byte 0#8] }) (fun t =>
      t.phase == .idle && t.result == .protocolError (.malformedLength 0#8 none none [])) = true := by decide

/-- P1 line 2: the last byte of Reset's answer. -/
theorem test_last_body_byte :
    next (step { busy .rxBody 4#8 [0x01#8, 0x70#8, 0x10#8] with rxStream := [.byte 0xDB#8] }) (fun t =>
      t.result == .errorResponse (.named .success) 0x10#8 0x01#8 0x70#8 0#2) = true := by decide

/-- P5 line 3: five body bytes, seven bytes in all. -/
theorem test_timeout_in_body :
    next (step { busy .rxBody 0x0F#8 [0x01#8, 0x68#8, 0x01#8, 0x02#8, 0x03#8] with rxStream := [.timeout] }) (fun t =>
      t.result == .transportError (.timeout .rxBody 7) && t.link == .opened) = true := by decide

/-- R240: engine reset inside an exchange. -/
theorem test_reset_input :
    next (step { busy .rxBody 4#8 [0x01#8] with resetInput := [true], rxStream := [.byte 0x70#8] }) (fun t =>
      t.phase == .idle && t.link == .closed && !t.resultValid && t.rxStream == [.byte 0x70#8]) = true := by decide

/-! ### The pure functions -/

/-- Table 2.1. -/
theorem test_checksum_table :
    [[], [0x01#8], [0xFF#8], [0x80#8, 0x80#8], [0xA0#8, 0x03#8, 0x01#8, 0x70#8]].map checksum =
      [0x00#8, 0xFF#8, 0x01#8, 0x00#8, 0xEC#8] := by decide

/-- Table 2.2. -/
theorem test_verify_table :
    [[], [0x00#8], [0x01#8], [0x5D#8, 0xA3#8], [0xA0#8, 0x04#8, 0x01#8, 0x81#8, 0x36#8, 0x5B#8]].map verifyFrame =
      [false, true, false, true, false] := by decide

/-- S9. -/
theorem test_decode_s9 :
    decodeBody cfg0 0x81#8 22#8
      [0x01, 0x81, 0x00, 0x01, 0x0D, 0x30, 0x00, 0xE2, 0x00, 0x11, 0x22, 0x33, 0xAB, 0xCD, 1, 2, 3, 4, 5, 6, 0x06, 0xAF] =
      .readResult
        { tagCount := 1, pc := [0x30, 0x00], epc := [0xE2, 0x00, 0x11, 0x22, 0x33], crc := [0xAB, 0xCD],
          data := [1, 2, 3, 4, 5, 6], addr := 0x01, cmd := 0x81, trailer := [], warn := 0#2 } := by decide

/-- Table 2.4: DL 2, RL 0, tag_count 510, trailer 00. -/
theorem test_decode_read_510 :
    decodeBody cfg0 0x81#8 12#8 [0x01, 0x81, 0xFF, 0xFF, 0x02, 0x30, 0x00, 0x11, 0x22, 0x00, 0x00, 0x6F] =
      .readResult
        { tagCount := 510, pc := [0x30, 0x00], epc := [], crc := [0x11, 0x22], data := [], addr := 0x01, cmd := 0x81,
          trailer := [0x00], warn := 0#2 } := by decide

/-- Table 2.4: a negative EPC length. -/
theorem test_decode_read_negative :
    decodeBody cfg0 0x81#8 12#8 [0x01, 0x81, 0x00, 0x01, 0x03, 0, 0, 0, 0, 0, 0x04, 0xCA] =
      .protocolError (.malformedLength 12#8 (some 3#8) (some 4#8)
        [0x01, 0x81, 0x00, 0x01, 0x03, 0, 0, 0, 0, 0, 0x04, 0xCA]) := by decide

/-- Table 2.4: DL 2, status 33. -/
theorem test_decode_write_33 :
    decodeBody cfg0 0x82#8 12#8 [0x01, 0x82, 0x00, 0x01, 0x02, 0x00, 0x00, 0x55, 0x66, 0x33, 0x00, 0xE0] =
      .writeResult
        { tagCount := 1, pc := [0, 0], epc := [], crc := [0x55, 0x66], statusCategory := .named .tagWriteError,
          statusCode := 0x33, writeCount := 0, addr := 0x01, cmd := 0x82, trailer := [], warn := 0#2 } := by decide

/-- Table 2.4: a raw response, and the checksum policy. -/
theorem test_decode_raw_and_policy :
    decodeBody cfg0 0x7A#8 5#8 [0x01, 0x7A, 0x10, 0x00, 0xD0] = .rawResponse 0x01 0x7A [0x10, 0x00] 0#2 ∧
    decodeBody cfg0 0x81#8 4#8 [0x01, 0x81, 0x36, 0x5B] = .errorResponse (.named .noTagError) 0x36 0x01 0x81 1#2 ∧
    decodeBody cfgReject 0x81#8 4#8 [0x01, 0x81, 0x36, 0x5B] = .protocolError (.checksumMismatch 0xA4 0x5B) := by decide

/-- Tables 2.2 and 2.6. -/
theorem test_rendering :
    renderHex [0xE2#8, 0x00#8, 0x0A#8] = "E2 00 0A".toList ∧ renderHex [] = "".toList ∧
    (catalog cfg0 0x99#8).render = "Unhandled(0x99)".toList ∧ (catalog cfg0 0x43#8).render = "MembankOutOfRange".toList := by
  decide

/-- P1, P3 and P6. -/
theorem test_request_lines :
    parseRequest cfg0 "open /dev/ttyS0, 115200, 1".toList = some (.openLink "/dev/ttyS0".toList 115200 1) ∧
    parseRequest cfg0 "buzzer Tag".toList = some (.exchange (.buzzer 2#8) false false) ∧
    parseRequest cfg0 "read TID, 10, 3".toList = some (.exchange (.read 2#8 10#8 3#8) false false) ∧
    parseRequest cfg0 "write EPC, 0, 1, pw=00000000, data=3000 confirm".toList =
      some (.exchange (.write 1#8 [0, 0, 0, 0] 0#8 1#8 [0x30#8, 0#8]) false true) ∧
    parseRequest cfg0 "inventory".toList = some (.exchange (.inventory 1#8) false false) ∧
    parseRequest cfg0 "getid bcast".toList = some (.exchange .getid true false) ∧
    parseRequest cfg0 "close".toList = some .closeLink := by decide

/-- Hexadecimal digits of either case (R87), and what is none. -/
theorem test_hex_bytes :
    parseHexBytes "E2aF09".toList = some [0xE2#8, 0xAF#8, 0x09#8] ∧ parseHexBytes "1G".toList = none := by decide

/-- The membank codes are a parameter (R6, D2): with EPC and TID exchanged, code 2 is the EPC bank, ceiling and all. -/
theorem test_other_membank_codes :
    let cfg : Cfg := { cfg0 with membankCodes := ⟨.reserved, .tid, .epc, .user, by decide⟩ }
    isDestructive cfg 2#8 1#8 = true ∧ isDestructive cfg 1#8 1#8 = false ∧
    checkRange cfg 2#8 0#8 9#8 = some .wordLimit ∧ checkRange cfg 1#8 0#8 12#8 = none := by decide

/-- R210 to R216: classes, codes and the warning sets. -/
theorem test_result_classes :
    (Result.errorResponse (.named .success) 0x10 1 0x70 1#2).errorClass = .deviceError ∧
    (Result.destructiveWriteWarning 1 0 1).errorClass = .warning ∧
    (Result.validationError .frameTooLong).reasonCode = some 6 ∧ Result.done.reasonCode = none ∧
    (Result.rawResponse 1 0x68 [] 2#2).warnings = some 2#2 ∧ (Result.validationError .wordLimit).warnings = none := by
  decide

/-! ### Witnesses: data that meet the hypotheses of each statement, at the boundary of each clause -/

theorem witness_ChecksumLaws : List.Perm [0x01#8, 0x02#8] [0x02#8, 0x01#8] := by decide

theorem witness_FrameLengthAndChecksumBytes :
    buildFrame [0x70#8] false = .ok [0xA0#8, 0x03#8, 0x01#8, 0x70#8, 0xEC#8] := by decide

theorem witness_BuildFrameLayout :
    (List.replicate 253 0x00#8).length ≤ 253 ∧ (0 < (List.replicate 253 0x00#8).length) ∧
    253 < (List.replicate 254 0x00#8).length := by
  simp only [List.length_replicate]
  decide

theorem witness_BuiltFrameVerifies : ([] : Bytes).length ≤ 253 ∧ (List.replicate 253 0xFF#8).length ≤ 253 := by
  simp only [List.length_replicate]
  decide

theorem witness_DecodeInvertsEncode :
    [Instr.reset, .read 3#8 255#8 255#8, .write 1#8 [0, 0, 0, 0] 0#8 1#8 [0x30, 0], .inventory 255#8, .buzzer 2#8,
      .getid].map Instr.encodable = [true, true, true, true, true, true] := by decide

theorem witness_DecodeReadsOnlyEncodings : decode [0x7A#8, 0x02#8, 0x99#8] = .ok (.buzzer 2#8, [0x99#8]) := by decide

theorem witness_DecodeFrameInvertsBuild :
    (Instr.buzzer 2#8).encodable = true ∧
    buildFrame (encode (.buzzer 2#8)) false = .ok [0xA0#8, 0x04#8, 0x01#8, 0x7A#8, 0x02#8, 0xDF#8] := by decide

theorem witness_FirstPayloadByteSelectsCommand :
    decode [0x68#8] = .ok (.getid, []) ∧ decode [0x69#8] = .error (.unknownOpcode 0x69#8) := by decide

theorem witness_EncoderAnswersTheEncoding :
    encodeCommand cfg0 (.write 1#8 [0, 0, 0, 0] 1#8 0#8 []) true = .ok [0x82#8, 0, 0, 0, 0, 1#8, 1#8, 0#8] ∧
    (Instr.write 1#8 [0, 0, 0, 0] 1#8 0#8 []).destructive cfg0 = true := by decide

theorem witness_EncodedPayloadBound :
    encodeCommand cfg0 (.read 3#8 0#8 32#8) false = .ok [0x81#8, 0x03#8, 0x00#8, 0x20#8] := by decide

/-- The ceilings of R122, at the last range inside and the first outside. -/
theorem witness_ceilings :
    WithinCeiling cfg0 0#8 0#8 4#8 ∧ ¬ WithinCeiling cfg0 0#8 2#8 3#8 ∧ WithinCeiling cfg0 1#8 0#8 8#8 ∧
    ¬ WithinCeiling cfg0 1#8 0#8 9#8 ∧ WithinCeiling cfg0 2#8 10#8 2#8 ∧ ¬ WithinCeiling cfg0 2#8 10#8 3#8 ∧
    WithinCeiling cfg0 3#8 0#8 32#8 ∧ ¬ WithinCeiling cfg0 3#8 1#8 32#8 := by
  unfold WithinCeiling NamesBank
  refine ⟨?_, ?_, ?_, ?_, ?_, ?_, ?_, ?_⟩ <;> decide

theorem witness_EncodeReadOutcomes :
    3 < (4#8 : Byte).toNat ∧ ((3#8 : Byte).toNat ≤ 3 ∧ ¬ WithinCeiling cfg0 3#8 1#8 32#8) ∧ WithinCeiling cfg0 3#8 0#8 32#8 ∧
    cfg0.membankCodes = Config.membankCodes := by
  and_intros <;> first | decide | (unfold NamesBank; decide) | (unfold WithinCeiling NamesBank; decide)

theorem witness_DestructiveConditionIsEpcBelowWordTwo :
    WithinCeiling cfg0 1#8 1#8 0#8 ∧ TouchesPcCrc cfg0 1#8 1#8 ∧ WithinCeiling cfg0 1#8 2#8 0#8 ∧ ¬ TouchesPcCrc cfg0 1#8 2#8 ∧
    ([0, 0, 0, 0] : Bytes).length = 4 ∧ ([] : Bytes).length = 2 * (0#8 : Byte).toNat ∧
    cfg0.membankCodes = Config.membankCodes := by
  and_intros <;> first | decide | (unfold NamesBank; decide) | (unfold TouchesPcCrc NamesBank; decide)

theorem witness_ResetAndGetIdLaunch : openIdle.phase = .idle ∧ openIdle.link = .opened := by decide

theorem witness_InventoryLaunches : openIdle.phase = .idle ∧ openIdle.link = .opened := by decide

theorem witness_BuzzerLaunches : openIdle.phase = .idle ∧ openIdle.link = .opened ∧ (2#8 : Byte).toNat ≤ 2 := by decide

theorem witness_ReadLaunches :
    openIdle.phase = .idle ∧ openIdle.link = .opened ∧ WithinCeiling openIdle.cfg 2#8 10#8 2#8 := by
  and_intros <;> first | decide | (unfold NamesBank; decide)

/-- A form that needs no confirmation, and a confirmed form that does. -/
theorem witness_WriteLaunches :
    openIdle.phase = .idle ∧ openIdle.link = .opened ∧ WithinCeiling openIdle.cfg 3#8 31#8 1#8 ∧
    ([0, 0, 0, 0] : Bytes).length = 4 ∧ ([1, 2] : Bytes).length = 2 * (1#8 : Byte).toNat ∧
    8 + 2 * (1#8 : Byte).toNat ≤ 253 ∧ ¬ TouchesPcCrc openIdle.cfg 3#8 31#8 ∧
    WithinCeiling openIdle.cfg 1#8 0#8 1#8 ∧ TouchesPcCrc openIdle.cfg 1#8 0#8 ∧
    ({ openIdle with reqConfirm := true } : State).reqConfirm = true := by
  and_intros <;> first | decide | (unfold NamesBank; decide) | (unfold TouchesPcCrc NamesBank; decide)

theorem witness_UnconfirmedDestructiveWriteWarns :
    openIdle.phase = .idle ∧ openIdle.link = .opened ∧ WithinCeiling openIdle.cfg 1#8 1#8 1#8 ∧
    ([0, 0, 0, 0] : Bytes).length = 4 ∧ ([1, 2] : Bytes).length = 2 * (1#8 : Byte).toNat ∧
    TouchesPcCrc openIdle.cfg 1#8 1#8 ∧ openIdle.reqConfirm = false := by
  and_intros <;> first | decide | (unfold NamesBank; decide)

theorem witness_FailedCheckCompletesWithFirstReason :
    openIdle.phase = .idle ∧ openIdle.link = .opened ∧ 3 < (4#8 : Byte).toNat ∧
    ((3#8 : Byte).toNat ≤ 3 ∧ ¬ WithinCeiling openIdle.cfg 3#8 1#8 32#8) ∧
    (WithinCeiling openIdle.cfg 3#8 0#8 1#8 ∧ ([0, 0, 0] : Bytes).length ≠ 4) ∧
    (([0, 0, 0, 0] : Bytes).length = 4 ∧ ([0, 0, 0] : Bytes).length ≠ 2 * (1#8 : Byte).toNat) ∧
    2 < (3#8 : Byte).toNat := by
  and_intros <;> first | decide | (unfold NamesBank; decide) | (unfold WithinCeiling NamesBank; decide)

theorem witness_OverlongWriteIsNotFramed :
    ({ openIdle with cfg := cfgWide } : State).phase = .idle ∧ ({ openIdle with cfg := cfgWide } : State).link = .opened ∧
    WithinCeiling cfgWide 0#8 0#8 123#8 ∧ ([0, 0, 0, 0] : Bytes).length = 4 ∧
    (List.replicate 246 0x00#8).length = 2 * (123#8 : Byte).toNat ∧ 253 < 8 + 2 * (123#8 : Byte).toNat := by
  refine ⟨rfl, rfl, ?_, rfl, ?_, by decide⟩
  · unfold WithinCeiling NamesBank
    decide
  · simp only [List.length_replicate]
    decide

theorem witness_ClosedLinkGivesNotOpen : closedIdle.phase = .idle ∧ closedIdle.link = .closed := by decide

theorem witness_BusyEngineMakesCommandsWait :
    (busy .transmit 0#8 []).phase ≠ .idle ∧ ∃ t, step (busy .transmit 0#8 []) = .next t := ⟨by decide, _, rfl⟩

/-- The three kinds of next state: launched, completed, waiting. -/
theorem witness_OfferingACommandDoesNoIO :
    next (exec .reset openIdle) (fun t => t.phase == .transmit) = true ∧
    next (exec .reset closedIdle) (fun t => t.phase == .idle) = true ∧
    next (exec .reset (busy .rxBody 4#8 [])) (fun t => t.phase == .rxBody) = true := by decide

theorem witness_StepRunsTheOfferedCommand :
    (({ openIdle with hostRequests := [.exchange .getid true false] } : State).phase = .idle ∧
      ({ openIdle with hostRequests := [.exchange .getid true false] } : State).resetAsserted = false ∧
      ({ openIdle with hostRequests := [.exchange .getid true false] } : State).hostRequests =
        [.exchange .getid true false]) ∧
    decodeTableWord 8 0x70 = some .reset := by decide

theorem witness_OpenCompletesByTransportAnswer :
    let s : State := { closedIdle with hostRequests := [.openLink [] 0 0], openAnswers := [.openFail, .openOk] }
    s.phase = .idle ∧ s.resetAsserted = false ∧ s.hostRequests = [.openLink [] 0 0] ∧
    s.openAnswers = .openFail :: [.openOk] := by decide

theorem witness_CloseCompletesWithDone :
    let s : State := { openIdle with hostRequests := [.closeLink] }
    s.phase = .idle ∧ s.resetAsserted = false ∧ s.hostRequests = [.closeLink] := by decide

/-- Both answers. -/
theorem witness_TransmitHandsOverTheWholeFrame :
    let s : State := { busy .transmit 0#8 [] with writeAnswers := [.writeOk] }
    let f : State := { busy .transmit 0#8 [] with writeAnswers := [.writeFail] }
    s.phase = .transmit ∧ s.resetAsserted = false ∧ s.writeAnswers = [.writeOk] ∧ f.writeAnswers = [.writeFail] := by decide

/-- The header and its neighbour. -/
theorem witness_HeaderByteIsCheckedFirst :
    let s : State := { busy .rxHeader 0#8 [] with rxStream := [.byte 0xA0#8] }
    let f : State := { busy .rxHeader 0#8 [] with rxStream := [.byte 0xA1#8] }
    s.phase = .rxHeader ∧ s.resetAsserted = false ∧ s.rxStream = [.byte 0xA0#8] ∧ f.rxStream = [.byte 0xA1#8] := by decide

/-- Lengths 0, 1 and 255. -/
theorem witness_LengthByteOpensTheBody :
    let s (b : Byte) : State := { busy .rxLength 0#8 [] with rxStream := [.byte b] }
    (s 0#8).phase = .rxLength ∧ (s 0#8).resetAsserted = false ∧ (s 0#8).rxStream = [.byte 0#8] ∧
    (s 1#8).rxStream = [.byte 1#8] ∧ (s 255#8).rxStream = [.byte 255#8] := by decide

/-- The last body byte but one, and the last. -/
theorem witness_BodyIsDecodedWhenComplete :
    let s (l : Byte) : State := { busy .rxBody l [1#8] with rxStream := [.byte 9#8] }
    (s 3#8).phase = .rxBody ∧ (s 3#8).resetAsserted = false ∧ (s 3#8).rxStream = [.byte 9#8] ∧
    (s 3#8).rxBody.length + 1 ≠ (s 3#8).rxLen.toNat ∧ (s 2#8).rxBody.length + 1 = (s 2#8).rxLen.toNat := by decide

/-- Every receive phase, and both events. -/
theorem witness_LostByteCompletesWithProgress :
    let s (p : Phase) (e : RxEvent) : State := { busy p 4#8 [1#8] with rxStream := [e] }
    (s .rxHeader .timeout).phase.receives = true ∧ (s .rxLength .timeout).phase.receives = true ∧
    (s .rxBody .disconnected).phase.receives = true ∧ (s .rxBody .disconnected).resetAsserted = false ∧
    (s .rxHeader .timeout).rxStream = [.timeout] ∧ (s .rxBody .disconnected).rxStream = [.disconnected] := by decide

theorem witness_ResetInputResetsTheEngine :
    ({ busy .rxBody 4#8 [] with resetInput := [true] } : State).resetAsserted = true ∧
    ({ closedIdle with resetInput := [true, false] } : State).resetAsserted = true := by decide

theorem passes_of_warn {cfg : Cfg} (h : cfg.checksumPolicy = .warnOnly) (len : Byte) (body : Bytes) :
    ChecksumPasses cfg len body := .inr h

/-- A body that verifies passes under Reject too. -/
theorem witness_ChecksumPasses : ChecksumPasses cfgReject 4#8 [0x01, 0x81, 0x36, 0xA4] := .inl (by decide)

/-- Lengths 2; 3 and 5; the read and the write layout one byte short (table 2.4). -/
theorem witness_ShortBodiesAreMalformed :
    ([1, 0x5D] : Bytes).length = (2#8 : Byte).toNat ∧ (2#8 : Byte).toNat < 3 ∧
    (([1, 0x81, 0xDB] : Bytes).length = (3#8 : Byte).toNat ∧ (3#8 : Byte).toNat ≠ 4 ∧ 3 ≤ (3#8 : Byte).toNat) ∧
    (([1, 0x81, 0, 1, 0xD8] : Bytes).length = (5#8 : Byte).toNat ∧ (5#8 : Byte).toNat < 6) ∧
    (([1, 0x81, 0, 1, 5, 0, 0, 0, 0, 0xCE] : Bytes).length = (10#8 : Byte).toNat ∧ 6 ≤ (10#8 : Byte).toNat ∧
      (10#8 : Byte).toNat < 9 + (([1, 0x81, 0, 1, 5, 0, 0, 0, 0, 0xCE] : Bytes).getD 4 0#8).toNat) ∧
    (([1, 0x82, 0, 1, 2, 0, 0, 0x55, 0x66, 0x33, 0xE1] : Bytes).length = (11#8 : Byte).toNat ∧ 6 ≤ (11#8 : Byte).toNat ∧
      (11#8 : Byte).toNat < 10 + (([1, 0x82, 0, 1, 2, 0, 0, 0x55, 0x66, 0x33, 0xE1] : Bytes).getD 4 0#8).toNat) ∧
    ChecksumPasses cfg0 10#8 [1, 0x81, 0, 1, 5, 0, 0, 0, 0, 0xCE] := by
  refine ⟨by decide, by decide, by decide, by decide, by decide, by decide, passes_of_warn (by decide) _ _⟩

/-- EPC length 0 (DL 4, RL 2) and -1 (DL 3, RL 2), in bodies of 13 bytes. -/
theorem witness_ReadEpcLengthOnIntegers :
    let good : Bytes := [1, 0x81, 0, 1, 4, 0x30, 0, 0xAA, 0xBB, 0xCC, 0xDD, 2, 0x8C]
    let bad : Bytes := [1, 0x81, 0, 1, 3, 0x30, 0, 0xAA, 0xBB, 0xCC, 2, 0, 0]
    good.length = (13#8 : Byte).toNat ∧ ChecksumPasses cfg0 13#8 good ∧ good[4]? = some 4#8 ∧ good[7 + 4]? = some 2#8 ∧
    (0 : Int) ≤ ((4#8 : Byte).toNat : Int) - (2#8 : Byte).toNat - 2 ∧ 9 + (4#8 : Byte).toNat ≤ (13#8 : Byte).toNat ∧
    bad.length = (13#8 : Byte).toNat ∧ bad[4]? = some 3#8 ∧ bad[7 + 3]? = some 2#8 ∧
    ((3#8 : Byte).toNat : Int) - (2#8 : Byte).toNat - 2 < 0 :=
  ⟨by decide, passes_of_warn (by decide) _ _, by decide, by decide, by decide, by decide, by decide, by decide, by decide,
    by decide⟩

/-- The clause with the numbers of the source: DL 13, RL 6 (S9). -/
theorem witness_ReadEpcLengthOnIntegers_s9 :
    let s9 : Bytes := [0x01, 0x81, 0x00, 0x01, 0x0D, 0x30, 0x00, 0xE2, 0x00, 0x11, 0x22, 0x33, 0xAB, 0xCD] ++
      [1, 2, 3, 4, 5, 6, 0x06, 0xAF]
    s9.length = (22#8 : Byte).toNat ∧ ChecksumPasses cfg0 22#8 s9 ∧ s9[4]? = some 13#8 ∧ s9[7 + 13]? = some 6#8 ∧
    9 + (13#8 : Byte).toNat ≤ (22#8 : Byte).toNat :=
  ⟨by decide, passes_of_warn (by decide) _ _, by decide, by decide, by decide⟩

/-- EPC length 0 (DL 2) and -1 (DL 1) (table 2.4). -/
theorem witness_WriteEpcLengthOnIntegers :
    let good : Bytes := [1, 0x82, 0, 1, 2, 0, 0, 0x55, 0x66, 0x33, 0, 0xE0]
    let bad : Bytes := [1, 0x82, 0, 1, 1, 0, 0, 0x55, 0x66, 0x33, 0, 0xE1]
    good.length = (12#8 : Byte).toNat ∧ ChecksumPasses cfg0 12#8 good ∧ good[4]? = some 2#8 ∧
    10 + (2#8 : Byte).toNat ≤ (12#8 : Byte).toNat ∧ (0 : Int) ≤ ((2#8 : Byte).toNat : Int) - 2 ∧
    bad.length = (12#8 : Byte).toNat ∧ ChecksumPasses cfg0 12#8 bad ∧ bad[4]? = some 1#8 ∧
    ((1#8 : Byte).toNat : Int) - 2 < 0 :=
  ⟨by decide, passes_of_warn (by decide) _ _, by decide, by decide, by decide, by decide, passes_of_warn (by decide) _ _,
    by decide, by decide⟩

/-- S9's fields. -/
theorem witness_ReadBodyDecodesToItsFields :
    ([0x30, 0x00] : Bytes).length = 2 ∧ ([0xAB, 0xCD] : Bytes).length = 2 ∧
    ([1, 2, 3, 4, 5, 6] : Bytes).length = (6#8 : Byte).toNat ∧
    ([0xE2, 0x00, 0x11, 0x22, 0x33] : Bytes).length + (6#8 : Byte).toNat + 2 = (13#8 : Byte).toNat ∧
    (readBody 1 0x81 0 1 13#8 [0x30, 0x00] [0xE2, 0x00, 0x11, 0x22, 0x33] [0xAB, 0xCD] [1, 2, 3, 4, 5, 6] 6#8 [] 0xAF).length =
      (22#8 : Byte).toNat ∧
    ChecksumPasses cfg0 22#8
      (readBody 1 0x81 0 1 13#8 [0x30, 0x00] [0xE2, 0x00, 0x11, 0x22, 0x33] [0xAB, 0xCD] [1, 2, 3, 4, 5, 6] 6#8 [] 0xAF) :=
  ⟨by decide, by decide, by decide, by decide, by decide, passes_of_warn (by decide) _ _⟩

/-- The second write frame of table 2.4. -/
theorem witness_WriteBodyDecodesToItsFields :
    ([0, 0] : Bytes).length = 2 ∧ ([0x55, 0x66] : Bytes).length = 2 ∧ ([] : Bytes).length + 2 = (2#8 : Byte).toNat ∧
    (writeBody 1 0x82 0 1 2#8 [0, 0] [] [0x55, 0x66] 0x33 0 [] 0xE0).length = (12#8 : Byte).toNat ∧
    ChecksumPasses cfg0 12#8 (writeBody 1 0x82 0 1 2#8 [0, 0] [] [0x55, 0x66] 0x33 0 [] 0xE0) :=
  ⟨by decide, by decide, by decide, by decide, passes_of_warn (by decide) _ _⟩

theorem witness_ReadResultTilesTheBody :
    let body : Bytes := [1, 0x81, 0, 1, 4, 0x30, 0, 0xAA, 0xBB, 0xCC, 0xDD, 2, 0x8C]
    body.length = (13#8 : Byte).toNat ∧
    decodeBody cfg0 0x81#8 13#8 body =
      .readResult
        { tagCount := 1, pc := [0x30, 0], epc := [], crc := [0xAA, 0xBB], data := [0xCC, 0xDD], addr := 1, cmd := 0x81,
          trailer := [], warn := 0#2 } := by decide

theorem witness_FourByteBodyIsErrorResponse : ChecksumPasses cfg0 4#8 [0x01, 0x81, 0x36, 0xA4] := .inl (by decide)

/-- Lengths 3 and 5, the neighbours of the excluded 4. -/
theorem witness_OtherResponsesAreRaw :
    (0x7A#8 : Byte) ≠ 0x81#8 ∧ (0x7A#8 : Byte) ≠ 0x82#8 ∧
    ([0x10, 0x00] : Bytes).length + 3 = (5#8 : Byte).toNat ∧ (5#8 : Byte).toNat ≠ 4 ∧
    ChecksumPasses cfg0 5#8 ([0x01, 0x7A] ++ [0x10, 0x00] ++ [0xD0]) ∧
    ([] : Bytes).length + 3 = (3#8 : Byte).toNat ∧ ChecksumPasses cfg0 3#8 ([0x01, 0x70] ++ [] ++ [0xEC]) :=
  ⟨by decide, by decide, by decide, by decide, passes_of_warn (by decide) _ _, by decide, passes_of_warn (by decide) _ _⟩

/-- Reject with a bad checksum, Warn, and a result that carries both warnings. -/
theorem witness_ChecksumPolicyAndWarnings :
    ([0x01, 0x81, 0x36, 0x5B] : Bytes).length = (4#8 : Byte).toNat ∧ cfgReject.checksumPolicy = .reject ∧
    checksum [0xA0, 4, 0x01, 0x81, 0x36] ≠ 0x5B#8 ∧ cfg0.checksumPolicy = .warnOnly ∧
    (decodeBody cfg0 0x70#8 4#8 [0x01, 0x81, 0x36, 0x5B]).warnings = some 3#2 := by decide

theorem witness_CatalogFallsBackToUnhandled :
    cfg0.errorCatalog.entries.lookup 0x36#8 = some .noTagError ∧ cfg0.errorCatalog.entries.lookup 0x37#8 = none := by decide

theorem witness_ResultsStayInTheTable :
    openIdle.phase = .idle ∧ next (exec (.buzzer 3#8) openIdle) (fun t => t.phase == .idle) = true := by decide

/-- A step that consumes an event, and one that does not. -/
theorem witness_OnlyReceivePhasesConsumeEvents :
    (∃ t, step { busy .rxHeader 0#8 [] with rxStream := [.timeout] } = .next t) ∧
    (∃ t, step { closedIdle with rxStream := [.timeout] } = .next t) := ⟨⟨_, rfl⟩, ⟨_, rfl⟩⟩

theorem witness_EachPhaseMakesOnlyItsCalls :
    next (step { busy .transmit 0#8 [] with writeAnswers := [.writeOk] }) (fun t =>
      t.calls == [.writeCall [0xA0#8, 0x03#8, 0x01#8, 0x70#8, 0xEC#8]]) = true := by decide

/-- The three ways `link` changes. -/
theorem witness_LinkChangesOnlyByOpenCloseReset :
    next (step { closedIdle with hostRequests := [.openLink [] 0 0], openAnswers := [.openOk] }) (fun t =>
      t.link != Link.closed) = true ∧
    next (step { openIdle with hostRequests := [.closeLink] }) (fun t => t.link != Link.opened) = true ∧
    next (step { openIdle with resetInput := [true] }) (fun t => t.link != Link.opened) = true := by decide

/-- A state inside an exchange that meets the invariant, and steps. -/
theorem witness_EveryStepKeepsTheInvariant : (busy .transmit 0#8 []).Inv ∧ ∃ t, step (busy .transmit 0#8 []) = .next t :=
  ⟨⟨by decide, by decide, by decide, by decide, fun _ => ⟨.reset, false, by decide, by decide, by decide⟩, by decide,
    by decide, by decide⟩, _, rfl⟩

/-- An idle state that meets the invariant, with a launch next. -/
theorem witness_Inv_idle : openIdle.Inv :=
  ⟨by decide, by decide, by decide, by decide, fun h => absurd rfl h, by decide, by decide, by decide⟩

theorem witness_ReachableStatesMeetSpecInvariants :
    (State.inEnvironment ⟨cfg0, [], [], [], [], []⟩).Reachable := ⟨_, 0, rfl⟩

/-- A state that has sent a frame, and sends another. -/
theorem witness_OnlyCommandFramesAreSent :
    let s : State := { busy .transmit 0#8 [] with
      writeAnswers := [.writeOk], calls := [.writeCall [0xA0#8, 0x03#8, 0x01#8, 0x68#8, 0xF4#8]] }
    s.Inv ∧ s.SentCommandFrames ∧ ∃ t, step s = .next t := by
  refine ⟨⟨by decide, by decide, by decide, by decide, fun _ => ⟨.reset, false, by decide, by decide, by decide⟩,
    by decide, by decide, by decide⟩, fun frame h => ?_, _, rfl⟩
  simp at h
  exact ⟨_, .getid, false, by decide, rfl, by rw [h]; decide⟩

/-- Two states that differ in the unspecified elements only. -/
theorem witness_UnspecifiedElementsAreUnobservable :
    SameVisible openIdle { openIdle with pendOp := 1#8, rxLen := 7#8, rxBody := [1#8], result := .transportError .notOpen } ∧
    ∃ t, step openIdle = .next t :=
  ⟨⟨rfl, rfl, rfl, rfl, rfl, rfl, rfl, rfl, rfl, rfl, rfl, rfl, rfl, by decide, by decide, by decide, by decide, by decide⟩,
    _, rfl⟩

/-- P1 line 2, and the shortest response, L = 0. -/
theorem witness_ExchangeDecodesTheWholeResponse :
    let s : State := { busy .transmit 0#8 [] with
      writeAnswers := [.writeOk], rxStream := [.byte 0xA0, .byte 4, .byte 1, .byte 0x70, .byte 0x10, .byte 0xDB] }
    let z : State := { busy .transmit 0#8 [] with writeAnswers := [.writeOk], rxStream := [.byte 0xA0, .byte 0] }
    s.phase = .transmit ∧ (∀ x ∈ s.resetInput, x = false) ∧ s.writeAnswers = .writeOk :: [] ∧
    ([1, 0x70, 0x10, 0xDB] : Bytes).length = (4#8 : Byte).toNat ∧
    s.rxStream = [.byte 0xA0#8, .byte 4#8] ++ [1, 0x70, 0x10, 0xDB].map .byte ++ [] ∧
    ([] : Bytes).length = (0#8 : Byte).toNat ∧ z.rxStream = [.byte 0xA0#8, .byte 0#8] ++ ([] : Bytes).map .byte ++ [] := by
  decide

/-- The longest response of table 2.5: 257 events. -/
theorem witness_ExchangeCompletesWithinBound :
    let s : State := { busy .transmit 0#8 [] with
      writeAnswers := [.writeOk], rxStream := .byte 0xA0 :: .byte 0xFF :: List.replicate 255 (.byte 0) }
    s.Inv ∧ s.phase = .transmit ∧ (∀ x ∈ s.resetInput, x = false) ∧ s.writeAnswers ≠ [] ∧ 257 ≤ s.rxStream.length :=
  ⟨⟨by decide, by decide, by decide, by decide, fun _ => ⟨.reset, false, by decide, by decide, by decide⟩, by decide,
    by decide, by decide⟩, rfl, by decide, by decide, by
      simp only [List.length_cons, List.length_replicate]
      decide⟩

end Sys2Proof.Tests
end

/-! ### The invariant (R36): what the encoder latches, what each operation keeps, every step, every run -/

namespace Sys2Proof.Machine

/-- SetBuzzer is well formed when its mode is in range (R136), whatever the configuration. -/
theorem wellFormed_buzzer (cfg : Cfg) (m : Byte) : Instr.WellFormed cfg (.buzzer m) ↔ modeOk m = true := by
  simp [Instr.WellFormed, Instr.wellFormed, Instr.encodable, Instr.membankChecked, Instr.passwordChecked,
    Instr.dataChecked, Instr.modeChecked, Instr.rangeChecked]

/-- What the encoder answers is the encoding of a well-formed command (R126, R129, R136). -/
theorem encodeCommand_ok {cfg : Cfg} {i : Instr} {confirm : Bool} {p : Bytes}
    (h : encodeCommand cfg i confirm = .ok p) : Instr.WellFormed cfg i ∧ p = encode i := by
  cases i with
  | reset => cases h; exact ⟨rfl, rfl⟩
  | getid => cases h; exact ⟨rfl, rfl⟩
  | inventory r => cases h; exact ⟨rfl, rfl⟩
  | buzzer m =>
    simp only [encodeCommand, encodeSetBuzzer] at h
    split at h
    · next hm => cases h; exact ⟨(wellFormed_buzzer ..).mpr hm, rfl⟩
    · cases h
  | read m a c =>
    simp only [encodeCommand, encodeRead] at h
    split at h
    · cases h
    · next hc => cases h; exact ⟨(wellFormed_read ..).mpr ((checkRange_none_iff ..).mp hc), rfl⟩
  | write m pw a c d =>
    simp only [encodeCommand, encodeWrite] at h
    split at h
    · cases h
    · next hc =>
      split at h
      · cases h
      · cases h
        exact ⟨(wellFormed_write ..).mpr ((checkWrite_none_iff ..).mp hc), by simp [encode, Config.opWrite]⟩

theorem byteAt_encode_zero (i : Instr) : byteAt (encode i) 0 = i.opcode := by
  cases i <;> rfl

/-- A payload the encoder answers, if it fits a frame, is framed as a command frame of its first byte (R102, R194). -/
theorem isCommandFrame_of_encoded {cfg : Cfg} {i : Instr} {confirm : Bool} {p : Bytes} (broadcast : Bool)
    (h : encodeCommand cfg i confirm = .ok p) (hp : p.length ≤ 253) :
    IsCommandFrame cfg (byteAt p 0) (specFrame p broadcast) := by
  obtain ⟨hw, rfl⟩ := encodeCommand_ok h
  exact ⟨i, broadcast, hw, (byteAt_encode_zero i).symm, buildFrame_ok_iff.mpr ⟨hp, rfl⟩⟩

namespace State

variable {s : State}

/-- The invariant speaks of the engine's elements, not of its ports. -/
theorem Inv.ports (h : s.Inv) {broadcast confirm : Bool} {requests : List Request} {resets : List Bool}
    {opens : List OpenAnswer} {writes : List WriteAnswer} {stream : List RxEvent} {calls : List TransportCall} :
    ({ s with
      reqBroadcast := broadcast, reqConfirm := confirm, hostRequests := requests, resetInput := resets,
      openAnswers := opens, writeAnswers := writes, rxStream := stream, calls := calls } : State).Inv :=
  ⟨h.body_open, h.busy_result, h.busy_warn, h.busy_link, h.busy_frame, h.frame_bound, h.body_bound, h.result_warn⟩

/-- In Idle the invariant says only the two widths, and the warning set of a valid result. -/
theorem inv_of_idle (hp : s.phase = .idle) (hr : s.resultValid = true → s.warn = s.result.warnings.getD 0#2)
    (hf : s.pendFrame.length ≤ Config.maxFrame) (hb : s.rxBody.length ≤ Config.maxBody) : s.Inv where
  body_open h := by simp [hp] at h
  busy_result h := absurd hp h
  busy_warn h := absurd hp h
  busy_link h := absurd hp h
  busy_frame h := absurd hp h
  frame_bound := hf
  body_bound := hb
  result_warn := hr

/-- Completion from `warn` 0 establishes the invariant, whatever else held before (R203). -/
theorem complete_inv (r : Result) (hw : s.warn = 0#2) : (s.complete r).Inv :=
  inv_of_idle rfl (fun _ => by simp [hw]) (by simp) (by simp)

theorem engineReset_inv (s : State) : s.engineReset.Inv :=
  inv_of_idle rfl (by simp) (by simp) (by simp)

/-- Inside an exchange, a change of phase that does not open a body keeps the invariant (R151, R195). -/
theorem Inv.toPhase (h : s.Inv) (hp : s.phase ≠ .idle) {p : Phase} (hb : p ≠ .rxBody) : ({ s with phase := p } : State).Inv where
  body_open g := absurd g hb
  busy_result _ := h.busy_result hp
  busy_warn _ := h.busy_warn hp
  busy_link _ := h.busy_link hp
  busy_frame _ := h.busy_frame hp
  frame_bound := h.frame_bound
  body_bound := h.body_bound
  result_warn := h.result_warn

/-- A body that still lacks bytes keeps the invariant of the exchange it belongs to (R152, R153). -/
theorem Inv.toBody (h : s.Inv) (hp : s.phase ≠ .idle) {len : Byte} {body : Bytes} (hb : body.length < len.toNat) :
    ({ s with phase := .rxBody, rxLen := len, rxBody := body } : State).Inv where
  body_open _ := hb
  busy_result _ := h.busy_result hp
  busy_warn _ := h.busy_warn hp
  busy_link _ := h.busy_link hp
  busy_frame _ := h.busy_frame hp
  frame_bound := h.frame_bound
  body_bound := by
    have := len.isLt
    simp only [Config.maxBody]
    omega
  result_warn := h.result_warn

/-- A body byte in RxBody, as the body it leads to (R153). -/
theorem appendBody_eq (hp : s.phase = .rxBody) (b : Byte) :
    s.appendBody b = { s with phase := .rxBody, rxLen := s.rxLen, rxBody := s.rxBody ++ [b] } := by
  rw [← hp]; rfl

/-- An accepted EXCHANGE on an open link completes or latches a command frame (R190, R194). -/
theorem accept_launch_inv (h : s.Inv) (hl : s.link = .opened) (i : Instr) (confirm : Bool) :
    (s.accept.launch (encodeCommand s.cfg i confirm)).Inv := by
  rcases s.accept.launch_cases (encodeCommand s.cfg i confirm) with ⟨r, e, -⟩ | ⟨m, a, c, -, e⟩ | ⟨p, ho, hp, e⟩
  · rw [e]; exact complete_inv _ rfl
  · rw [e]; exact complete_inv _ rfl
  · rw [e]
    exact {
      body_open := nofun
      busy_result := fun _ => rfl
      busy_warn := fun _ => rfl
      busy_link := fun _ => hl
      busy_frame := fun _ => isCommandFrame_of_encoded _ ho hp
      frame_bound := by simp [Config.maxFrame]; omega
      body_bound := h.body_bound
      result_warn := nofun }

theorem exec_keeps_inv {i : Instr} {t : State} (h : s.Inv) (e : exec i s = .next t) : t.Inv := by
  rcases exec_inv e with ⟨-, rfl⟩ | ⟨-, -, rfl⟩ | ⟨-, hl, rfl⟩
  · exact h
  · exact complete_inv _ rfl
  · exact accept_launch_inv h hl i _

theorem openLink_inv (s : State) (port : Text) (baud limit : Nat) (a : OpenAnswer) : (s.openLink port baud limit a).Inv := by
  cases a <;> exact complete_inv _ rfl

theorem closeLink_inv (s : State) : s.closeLink.Inv := complete_inv _ rfl

theorem transmit_keeps_inv (h : s.Inv) (hp : s.phase = .transmit) (a : WriteAnswer) : (s.transmit a).Inv := by
  have busy : s.phase ≠ .idle := by simp [hp]
  cases a with
  | writeOk => exact Inv.toPhase (s := s.call _) h.ports busy (by decide)
  | writeFail => exact complete_inv _ (h.busy_warn busy)

theorem receive_keeps_inv (h : s.Inv) (hp : s.phase.receives = true) (e : RxEvent) : (s.receive e).Inv := by
  have busy : s.phase ≠ .idle := fun g => by simp [g, Phase.receives] at hp
  have hw : s.warn = 0#2 := h.busy_warn busy
  have hc : (s.call (.readCall 1 s.cfg.byteTimeout)).Inv := h.ports
  rcases s.receive_cases e hp with ⟨-, g⟩ | ⟨-, g⟩ | ⟨-, -, g⟩ | ⟨b, -, -, -, g⟩ | ⟨-, -, g⟩ | ⟨b, -, -, hb, g⟩ |
    ⟨b, -, -, -, g⟩ | ⟨b, hr, -, hb, g⟩ <;> rw [g]
  · exact complete_inv _ hw
  · exact complete_inv _ hw
  · exact hc.toPhase busy (by decide)
  · exact complete_inv _ hw
  · exact complete_inv _ hw
  · have hpos : 0 < b.toNat := by bv_omega
    exact hc.toBody busy hpos
  · exact complete_inv _ hw
  · have hlt : (s.rxBody ++ [b]).length < s.rxLen.toNat := by
      have := h.body_open hr
      simp only [List.length_append, List.length_singleton]
      omega
    rw [appendBody_eq (s := s.call _) hr]
    exact hc.toBody busy hlt

end State

theorem engineStep_keeps_inv {s t : State} (h : s.Inv) (e : engineStep s = .next t) : t.Inv := by
  rcases engineStep_inv e with ⟨-, rfl⟩ | ⟨p, b, l, rest, a, later, -, -, -, rfl⟩ | ⟨rest, -, -, rfl⟩ |
    ⟨i, b, c, rest, -, -, g⟩ | ⟨a, later, hp, -, rfl⟩ | ⟨ev, later, hp, -, rfl⟩
  · exact h
  · exact State.openLink_inv ..
  · exact State.closeLink_inv _
  · exact State.exec_keeps_inv (s := s.present rest b c) h.ports g
  · exact State.transmit_keeps_inv (s := s.takeWriteAnswer later) h.ports hp a
  · exact State.receive_keeps_inv (s := s.takeEvent later) h.ports hp ev

/-- Settles O54: engine reset establishes the invariant, and each operation of the engine proper keeps it. -/
theorem everyStepKeepsTheInvariant : Obligations.EveryStepKeepsTheInvariant := by
  intro s t h e
  rcases step_inv e with ⟨-, rfl⟩ | ⟨-, g⟩
  · exact State.engineReset_inv _
  · exact engineStep_keeps_inv (s := s.sampleReset) h.ports g

/-- Settles O53: in every environment the reset state is idle, has no valid result, and an empty frame and body. -/
theorem invariantHoldsAtReset : Obligations.InvariantHoldsAtReset := fun _ =>
  State.inv_of_idle rfl nofun (Nat.zero_le _) (Nat.zero_le _)

/-- What every step keeps holds after every run. -/
theorem run_keeps {P : State → Prop} (hstep : ∀ s t, P s → step s = .next t → P t) {n : Nat} {s t : State} (h : P s)
    (e : core.run n s = .next t) : P t := by
  induction n generalizing s with
  | zero => cases e; exact h
  | succ n ih =>
    cases hs : step s with
    | next u => exact ih (hstep s u h hs) (run_succ n hs ▸ e)
    | fault r => nomatch r
    | refused r =>
      have hc : core.step s = .refused r := hs
      simp [Host.Core.run, hc] at e

/-- The invariant every step keeps implies the three of R36. -/
theorem State.Inv.specInv {s : State} (h : s.Inv) : s.SpecInv :=
  ⟨fun hp => (h.body_open hp).le, h.busy_result, h.busy_warn⟩

/-- Settles O55: the invariant holds at reset and every step of the run keeps it. -/
theorem reachableStatesMeetSpecInvariants : Obligations.ReachableStatesMeetSpecInvariants := by
  rintro s ⟨env, n, e⟩
  exact (run_keeps everyStepKeepsTheInvariant (invariantHoldsAtReset env) e).specInv

end Sys2Proof.Machine

/-! ### What a step leaves of `link` (R22), engine reset and the reset values (R37) -/

namespace Sys2Proof.Machine

theorem State.launch_link (s : State) (o : EncodeOutcome) : (s.launch o).link = s.link := by
  rcases s.launch_cases o with ⟨r, e, -⟩ | ⟨m, a, c, -, e⟩ | ⟨p, -, -, e⟩ <;> simp [e]

/-- No command changes `link`, whatever its outcome (R193, R194). -/
theorem exec_link {i : Instr} {s t : State} (h : exec i s = .next t) : t.link = s.link := by
  rcases exec_inv h with ⟨-, rfl⟩ | ⟨-, -, rfl⟩ | ⟨-, -, rfl⟩
  · rfl
  · rfl
  · simp [State.launch_link]

theorem State.transmit_link (s : State) (a : WriteAnswer) : (s.transmit a).link = s.link := by
  cases a <;> rfl

/-- A step of the engine proper that changes `link` is an OPEN the transport answered or a CLOSE (R191, R192). -/
theorem engineStep_link {s t : State} (h : engineStep s = .next t) (hl : t.link ≠ s.link) :
    (s.phase = .idle ∧ t.link = .opened ∧ ∃ port baud limit rest, s.hostRequests = .openLink port baud limit :: rest) ∨
    (s.phase = .idle ∧ t.link = .closed ∧ ∃ rest, s.hostRequests = .closeLink :: rest) := by
  rcases engineStep_inv h with ⟨-, rfl⟩ | ⟨p, b, l, rest, a, later, hp, hr, -, rfl⟩ | ⟨rest, hp, hr, rfl⟩ |
    ⟨i, b, c, rest, -, -, g⟩ | ⟨a, later, -, -, rfl⟩ | ⟨e, later, hp, -, rfl⟩
  · exact absurd rfl hl
  · cases a with
    | openOk => exact .inl ⟨hp, rfl, p, b, l, rest, hr⟩
    | openFail => exact absurd rfl hl
  · exact .inr ⟨hp, rfl, rest, hr⟩
  · exact absurd (exec_link g) hl
  · exact absurd (State.transmit_link _ a) hl
  · obtain ⟨-, -, kept, -⟩ := (s.takeEvent later).receive_frame e hp
    exact absurd kept hl

/-- Settles O52: outside engine reset the change is one of `engineStep_link`. -/
theorem linkChangesOnlyByOpenCloseReset : Obligations.LinkChangesOnlyByOpenCloseReset := by
  intro s t h hl
  rcases step_inv h with ⟨hr, -⟩ | ⟨-, g⟩
  · exact .inl hr
  · exact .inr (engineStep_link (s := s.sampleReset) g hl)

/-- Settles O35: the step is engine reset on the sampled state, whose fields the laws of State give. -/
theorem resetInputResetsTheEngine : Obligations.ResetInputResetsTheEngine := fun s h =>
  ⟨_, step_reset s h, by simp⟩

/-- Settles O36: the reset state is one concrete state. -/
theorem resetValues : Obligations.ResetValues := by
  unfold Obligations.ResetValues
  decide

end Sys2Proof.Machine

/-! ### Noninterference: no operation lets an unspecified element (R24, R25, R28, I1) into what can be observed -/

namespace Sys2Proof.Machine

namespace SameVisible

variable {s s' : State}

theorem sampleReset (h : SameVisible s s') : SameVisible s.sampleReset s'.sampleReset :=
  { h with resetInput := congrArg List.tail h.resetInput }

theorem call (h : SameVisible s s') (c : TransportCall) : SameVisible (s.call c) (s'.call c) :=
  { h with calls := congrArg (· ++ [c]) h.calls }

theorem takeRequest (h : SameVisible s s') (rest : List Request) : SameVisible (s.takeRequest rest) (s'.takeRequest rest) :=
  { h with hostRequests := rfl }

theorem takeOpenAnswer (h : SameVisible s s') (later : List OpenAnswer) :
    SameVisible (s.takeOpenAnswer later) (s'.takeOpenAnswer later) :=
  { h with openAnswers := rfl }

theorem takeWriteAnswer (h : SameVisible s s') (later : List WriteAnswer) :
    SameVisible (s.takeWriteAnswer later) (s'.takeWriteAnswer later) :=
  { h with writeAnswers := rfl }

theorem takeEvent (h : SameVisible s s') (later : List RxEvent) : SameVisible (s.takeEvent later) (s'.takeEvent later) :=
  { h with rxStream := rfl }

theorem present (h : SameVisible s s') (rest : List Request) (b c : Bool) :
    SameVisible (s.present rest b c) (s'.present rest b c) :=
  { h with hostRequests := rfl, reqBroadcast := rfl, reqConfirm := rfl }

theorem withLink (h : SameVisible s s') (l : Link) : SameVisible { s with link := l } { s' with link := l } :=
  { h with link := rfl }

/-- After engine reset nothing of the engine's own elements is left to differ (R37, R240). -/
theorem engineReset (h : SameVisible s s') : SameVisible s.engineReset s'.engineReset :=
  { h with
    link := rfl, phase := rfl, warn := rfl, resultValid := rfl, result := fun _ => rfl, pendOp := fun _ => rfl,
    pendFrame := fun _ => rfl, rxLen := fun _ => rfl, rxBody := fun _ => rfl }

/-- Acceptance draws a `result` that is not valid (R190, I1). -/
theorem accept (h : SameVisible s s') : SameVisible s.accept s'.accept :=
  { h with warn := rfl, resultValid := rfl, result := nofun }

/-- Completion draws four elements, which Idle leaves unspecified (R203). -/
theorem complete (h : SameVisible s s') (r : Result) : SameVisible (s.complete r) (s'.complete r) :=
  { h with
    phase := rfl, resultValid := rfl, result := fun _ => rfl, warn := congrArg r.warnings.getD h.warn,
    pendOp := fun busy => absurd rfl busy, pendFrame := fun busy => absurd rfl busy, rxLen := nofun, rxBody := nofun }

theorem latch (h : SameVisible s s') (op : Byte) (frame : Bytes) : SameVisible (s.latch op frame) (s'.latch op frame) :=
  { h with phase := rfl, pendOp := fun _ => rfl, pendFrame := fun _ => rfl, rxLen := nofun, rxBody := nofun }

/-- Inside an exchange, a change of phase makes nothing observable but, in RxBody, the body (R151, R152, R195). -/
theorem toPhase (h : SameVisible s s') (busy : s.phase ≠ .idle) {p : Phase} (hl : p = .rxBody → s'.rxLen = s.rxLen)
    (hb : p = .rxBody → s'.rxBody = s.rxBody) : SameVisible { s with phase := p } { s' with phase := p } :=
  { h with
    phase := rfl, pendOp := fun _ => h.pendOp busy, pendFrame := fun _ => h.pendFrame busy, rxLen := hl, rxBody := hb }

theorem startBody (h : SameVisible s s') (b : Byte) : SameVisible (s.startBody b) (s'.startBody b) :=
  { h with rxLen := fun _ => rfl, rxBody := fun _ => rfl }

theorem appendBody (h : SameVisible s s') (b : Byte) : SameVisible (s.appendBody b) (s'.appendBody b) :=
  { h with rxBody := fun hp => congrArg (· ++ [b]) (h.rxBody hp) }

theorem launch (h : SameVisible s s') (o : EncodeOutcome) : SameVisible (s.launch o) (s'.launch o) := by
  cases o with
  | err r => exact h.complete _
  | warn m a c => exact h.complete _
  | ok p =>
    simp only [State.launch, h.reqBroadcast]
    split
    · exact h.complete _
    · exact h.latch ..

theorem exchange (h : SameVisible s s') (e : Cfg → Bool → EncodeOutcome) : SameVisible (s.exchange e) (s'.exchange e) := by
  rcases s.exchange_cases e with ⟨hp, g⟩ | ⟨hp, hl, g⟩ | ⟨hp, hl, g⟩
  · rw [g, s'.exchange_busy e (h.phase ▸ hp)]
    exact h
  · rw [g, s'.exchange_closed e (h.phase.trans hp) (h.link.trans hl)]
    exact h.accept.complete _
  · rw [g, s'.exchange_open e (h.phase.trans hp) (h.link.trans hl), h.cfg, h.reqConfirm]
    exact h.accept.launch _

theorem openLink (h : SameVisible s s') (port : Text) (baud limit : Nat) (a : OpenAnswer) :
    SameVisible (s.openLink port baud limit a) (s'.openLink port baud limit a) := by
  cases a with
  | openOk => exact ((h.accept.call _).withLink _).complete _
  | openFail => exact (h.accept.call _).complete _

theorem closeLink (h : SameVisible s s') : SameVisible s.closeLink s'.closeLink :=
  ((h.accept.call _).withLink _).complete _

theorem transmit (h : SameVisible s s') (hp : s.phase = .transmit) (a : WriteAnswer) :
    SameVisible (s.transmit a) (s'.transmit a) := by
  have busy : s.phase ≠ .idle := by simp [hp]
  simp only [State.transmit, h.pendFrame busy]
  cases a with
  | writeOk => exact (h.call _).toPhase busy nofun nofun
  | writeFail => exact (h.call _).complete _

/-- The number of bytes consumed is specified: it reads `rx_body` in RxBody only (R197). -/
theorem received (h : SameVisible s s') : s'.received = s.received := by
  simp only [State.received, h.phase]
  split
  · rfl
  · next hp => rw [h.rxBody hp]
  · rfl

/-- The decoder reads the pending opcode of the exchange and a body that is the same on both sides (R152, R153). -/
theorem finish (h : SameVisible s s') (busy : s.phase ≠ .idle) (hl : s'.rxLen = s.rxLen) (hb : s'.rxBody = s.rxBody) :
    SameVisible s.finish s'.finish := by
  simp only [State.finish, h.cfg, h.pendOp busy, hl, hb]
  exact h.complete _

theorem headerByte (h : SameVisible s s') (busy : s.phase ≠ .idle) (b : Byte) :
    SameVisible (s.headerByte b) (s'.headerByte b) := by
  unfold State.headerByte
  split
  · exact h.toPhase busy nofun nofun
  · exact h.complete _

theorem lengthByte (h : SameVisible s s') (busy : s.phase ≠ .idle) (b : Byte) :
    SameVisible (s.lengthByte b) (s'.lengthByte b) := by
  unfold State.lengthByte
  split
  · exact (h.startBody b).finish busy rfl rfl
  · exact (h.startBody b).toPhase busy (fun _ => rfl) (fun _ => rfl)

theorem bodyByte (h : SameVisible s s') (hp : s.phase = .rxBody) (b : Byte) :
    SameVisible (s.bodyByte b) (s'.bodyByte b) := by
  have ha := h.appendBody b
  have hl := ha.rxLen hp
  have hb := ha.rxBody hp
  simp only [State.bodyByte, hb, h.rxLen hp]
  split
  · exact ha.finish (by simp [hp]) hl hb
  · exact ha

theorem byteEvent (h : SameVisible s s') (b : Byte) : SameVisible (s.byteEvent b) (s'.byteEvent b) := by
  simp only [State.byteEvent, h.phase]
  cases hp : s.phase with
  | idle => exact h
  | transmit => exact h
  | rxHeader => exact h.headerByte (by simp [hp]) b
  | rxLength => exact h.lengthByte (by simp [hp]) b
  | rxBody => exact h.bodyByte hp b

theorem receive (h : SameVisible s s') (e : RxEvent) : SameVisible (s.receive e) (s'.receive e) := by
  simp only [State.receive, h.cfg, h.phase, h.received]
  cases e with
  | byte b => exact (h.call _).byteEvent b
  | timeout => exact (h.call _).complete _
  | disconnected => exact (h.call _).complete _

end SameVisible

/-- Two outcomes of a step: both have a next state, and the two next states cannot be told apart. -/
def SameVisibleNext (o o' : Host.Outcome State Fault Refusal) : Prop :=
  ∃ t t', o = .next t ∧ o' = .next t' ∧ SameVisible t t'

namespace SameVisible

variable {s s' : State}

theorem next (h : SameVisible s s') : SameVisibleNext (.next s) (.next s') := ⟨s, s', rfl, rfl, h⟩

theorem idleStep (h : SameVisible s s') : SameVisibleNext (idleStep s) (idleStep s') := by
  simp only [Machine.idleStep, h.hostRequests, h.openAnswers]
  split
  · exact h.next
  · split
    · exact h.next
    · exact (((h.takeRequest _).takeOpenAnswer _).openLink ..).next
  · exact (h.takeRequest _).closeLink.next
  · simp only [exec_eq]
    exact ((h.present ..).exchange _).next

theorem transmitStep (h : SameVisible s s') (hp : s.phase = .transmit) :
    SameVisibleNext (transmitStep s) (transmitStep s') := by
  simp only [Machine.transmitStep, h.writeAnswers]
  split
  · exact h.next
  · next answer later _ => exact ((h.takeWriteAnswer later).transmit hp answer).next

theorem receiveStep (h : SameVisible s s') : SameVisibleNext (receiveStep s) (receiveStep s') := by
  simp only [Machine.receiveStep, h.rxStream]
  split
  · exact h.next
  · exact ((h.takeEvent _).receive _).next

theorem engineStep (h : SameVisible s s') : SameVisibleNext (engineStep s) (engineStep s') := by
  simp only [Machine.engineStep, h.phase]
  cases hp : s.phase with
  | idle => exact h.idleStep
  | transmit => exact h.transmitStep hp
  | rxHeader | rxLength | rxBody => exact h.receiveStep

theorem step (h : SameVisible s s') : SameVisibleNext (step s) (step s') := by
  have hr : s'.resetAsserted = s.resetAsserted := congrArg (·.headD false) h.resetInput
  cases ha : s.resetAsserted with
  | true =>
    rw [step_reset s ha, step_reset s' (hr.trans ha)]
    exact h.sampleReset.engineReset.next
  | false =>
    rw [step_running s ha, step_running s' (hr.trans ha)]
    exact h.sampleReset.engineStep

end SameVisible

/-- Settles O57: every operation of the step keeps two states indistinguishable, and a step has one outcome. -/
theorem unspecifiedElementsAreUnobservable : Obligations.UnspecifiedElementsAreUnobservable := by
  intro s s' t t' h e e'
  obtain ⟨u, u', g, g', hu⟩ := h.step
  obtain rfl : u = t := by rw [g] at e; injection e
  obtain rfl : u' = t' := by rw [g'] at e'; injection e'
  exact hu

end Sys2Proof.Machine

/-! ### The transport port (R50, R57, R60): what a step and an offered command leave of it, which calls a step makes -/

namespace Sys2Proof.Machine

/-- Settles O26: a command is left waiting, or accepted and then completed or latched, and none of these touches a port. -/
theorem offeringACommandDoesNoIO : Obligations.OfferingACommandDoesNoIO := by
  intro i s t h
  rcases exec_inv h with ⟨-, rfl⟩ | ⟨-, -, rfl⟩ | ⟨-, -, rfl⟩
  · simp
  · simp
  · rcases s.accept.launch_cases (encodeCommand s.cfg i s.reqConfirm) with ⟨r, e, -⟩ | ⟨m, a, c, -, e⟩ | ⟨p, -, -, e⟩ <;>
      simp [e]

theorem exec_calls {i : Instr} {s t : State} (h : exec i s = .next t) : t.calls = s.calls :=
  (offeringACommandDoesNoIO i s t h).1

theorem exec_cfg {i : Instr} {s t : State} (h : exec i s = .next t) : t.cfg = s.cfg := by
  obtain ⟨-, -, -, -, -, -, -, -, -, kept, -⟩ := offeringACommandDoesNoIO i s t h
  exact kept

namespace State

variable (s : State)

theorem openLink_calls (port : Text) (baud limit : Nat) (a : OpenAnswer) :
    (s.openLink port baud limit a).calls = s.calls ++ [.openCall port baud limit] := by
  cases a <;> rfl

theorem openLink_cfg (port : Text) (baud limit : Nat) (a : OpenAnswer) : (s.openLink port baud limit a).cfg = s.cfg := by
  cases a <;> rfl

theorem closeLink_calls : s.closeLink.calls = s.calls ++ [.closeCall] := rfl

theorem closeLink_cfg : s.closeLink.cfg = s.cfg := rfl

theorem transmit_calls (a : WriteAnswer) : (s.transmit a).calls = s.calls ++ [.writeCall s.pendFrame] := by
  cases a <;> rfl

theorem transmit_cfg (a : WriteAnswer) : (s.transmit a).cfg = s.cfg := by
  cases a <;> rfl

end State

/-- Settles O51: engine reset and a resting or launching engine make no call; OPEN, CLOSE, the write and a byte-read step
make one each. -/
theorem eachPhaseMakesOnlyItsCalls : Obligations.EachPhaseMakesOnlyItsCalls := by
  intro s t h
  rcases step_inv h with ⟨-, rfl⟩ | ⟨-, h⟩
  · exact .inl rfl
  rcases engineStep_inv h with ⟨-, rfl⟩ | ⟨p, b, l, rest, a, later, hp, hr, -, rfl⟩ | ⟨rest, hp, hr, rfl⟩ |
    ⟨i, b, c, rest, -, -, g⟩ | ⟨a, later, hp, -, rfl⟩ | ⟨e, later, hp, -, rfl⟩
  · exact .inl rfl
  · exact .inr (.inl ⟨hp, p, b, l, rest, hr, State.openLink_calls ..⟩)
  · exact .inr (.inr (.inl ⟨hp, ⟨rest, hr⟩, State.closeLink_calls _⟩))
  · exact .inl (exec_calls (s := s.sampleReset.present rest b c) g)
  · exact .inr (.inr (.inr (.inl ⟨hp, State.transmit_calls ..⟩)))
  · obtain ⟨-, made, -⟩ := (s.sampleReset.takeEvent later).receive_frame e hp
    exact .inr (.inr (.inr (.inr ⟨hp, made⟩)))

/-- No step changes the configuration (R21). -/
theorem step_cfg {s t : State} (h : step s = .next t) : t.cfg = s.cfg := by
  rcases step_inv h with ⟨-, rfl⟩ | ⟨-, h⟩
  · rfl
  rcases engineStep_inv h with ⟨-, rfl⟩ | ⟨p, b, l, rest, a, later, -, -, -, rfl⟩ | ⟨rest, -, -, rfl⟩ |
    ⟨i, b, c, rest, -, -, g⟩ | ⟨a, later, -, -, rfl⟩ | ⟨e, later, hp, -, rfl⟩
  · rfl
  · exact State.openLink_cfg ..
  · exact State.closeLink_cfg _
  · exact exec_cfg (s := s.sampleReset.present rest b c) g
  · exact State.transmit_cfg ..
  · obtain ⟨-, -, -, kept, -⟩ := (s.sampleReset.takeEvent later).receive_frame e hp
    exact kept

/-- A frame handed over by a step is the latched one, in Transmit (R195). -/
theorem writeCall_of_step {s t : State} {frame : Bytes} (h : step s = .next t) (hf : .writeCall frame ∈ t.calls) :
    .writeCall frame ∈ s.calls ∨ s.phase = .transmit ∧ frame = s.pendFrame := by
  rcases eachPhaseMakesOnlyItsCalls s t h with e | ⟨-, p, b, l, rest, -, e⟩ | ⟨-, -, e⟩ | ⟨hp, e⟩ | ⟨-, e⟩ <;>
    simp only [e, List.mem_append, List.mem_singleton, reduceCtorEq, or_false, TransportCall.writeCall.injEq] at hf
  · exact .inl hf
  · exact .inl hf
  · exact .inl hf
  · exact hf.imp_right fun g => ⟨hp, g⟩
  · exact .inl hf

/-- Settles O56: a step sends at most the latched frame, which the invariant says is a command frame. -/
theorem onlyCommandFramesAreSent : Obligations.OnlyCommandFramesAreSent := by
  intro s t hi hs h frame hf
  rw [step_cfg h]
  rcases writeCall_of_step h hf with sent | ⟨hp, rfl⟩
  · exact hs frame sent
  · exact ⟨s.pendOp, hi.busy_frame (by simp [hp])⟩

end Sys2Proof.Machine

/-! ### One exchange run to its end (R151 to R153, R195, R196): the state after each of its parts, written out -/

namespace Sys2Proof.Machine

/-- `s` after `n` byte-read steps that left `later` on the RX stream: `n` samples of the reset input are gone, and `n`
reads of one byte are recorded. -/
@[simps]
def State.afterReads (s : State) (n : Nat) (later : List RxEvent) : State :=
  { s with
    resetInput := s.resetInput.drop n
    rxStream := later
    calls := s.calls ++ List.replicate n (.readCall 1 s.cfg.byteTimeout) }

/-- `s` completed with the decoding of a whole response, after the `n` byte-read steps that brought it (R153). -/
def State.answered (s : State) (n : Nat) (later : List RxEvent) (len : Byte) (body : Bytes) : State :=
  (s.afterReads n later).complete (decodeBody s.cfg s.pendOp len body)

/-- One read and then `n` more are `n + 1`. -/
theorem State.afterReads_answered (s : State) (n : Nat) (stream later : List RxEvent) (len : Byte) (body : Bytes) :
    (s.afterReads 1 stream).answered n later len body = s.answered (n + 1) later len body := by
  simp [State.answered, State.afterReads, List.replicate_succ]

/-- A byte-read step whose event is a byte (R196, R200). -/
theorem step_byte {s : State} {b : Byte} {later : List RxEvent} (h : s.phase.receives = true)
    (hq : ∀ x ∈ s.resetInput, x = false) (he : s.rxStream = .byte b :: later) :
    step s = .next ((s.afterReads 1 later).byteEvent b) := by
  rw [step_receive h (resetAsserted_of_quiet hq).1 he]
  simp [State.receive, State.afterReads, State.call, State.takeEvent, State.sampleReset]

theorem quiet_drop {s : State} (hq : ∀ x ∈ s.resetInput, x = false) (n : Nat) :
    ∀ x ∈ s.resetInput.drop n, x = false :=
  fun x hx => hq x (List.mem_of_mem_drop hx)

/-- A body byte in RxBody completes the body or extends it (R153). -/
theorem step_bodyByte {s : State} {b : Byte} {stream : List RxEvent} (hp : s.phase = .rxBody)
    (hq : ∀ x ∈ s.resetInput, x = false) (hx : s.rxStream = .byte b :: stream) :
    step s = .next (if s.rxBody.length + 1 = s.rxLen.toNat then s.answered 1 stream s.rxLen (s.rxBody ++ [b])
      else (s.afterReads 1 stream).appendBody b) := by
  rw [step_byte (by simp [hp, Phase.receives]) hq hx]
  simp only [State.byteEvent, State.afterReads_phase, hp, State.bodyByte, State.appendBody_rxBody,
    State.afterReads_rxBody, State.afterReads_rxLen, List.length_append, List.length_singleton]
  rfl

/-- The header in RxHeader (R151). -/
theorem step_header {s : State} {stream : List RxEvent} (hp : s.phase = .rxHeader)
    (hq : ∀ x ∈ s.resetInput, x = false) (hx : s.rxStream = .byte 0xA0#8 :: stream) :
    step s = .next { s.afterReads 1 stream with phase := .rxLength } := by
  rw [step_byte (by simp [hp, Phase.receives]) hq hx]
  simp [State.byteEvent, hp, State.headerByte, Config.header]

/-- The length byte in RxLength completes an empty body or opens one (R152). -/
theorem step_lengthByte {s : State} {len : Byte} {stream : List RxEvent} (hp : s.phase = .rxLength)
    (hq : ∀ x ∈ s.resetInput, x = false) (hx : s.rxStream = .byte len :: stream) :
    step s = .next (if len = 0#8 then s.answered 1 stream len []
      else { (s.afterReads 1 stream).startBody len with phase := .rxBody }) := by
  rw [step_byte (by simp [hp, Phase.receives]) hq hx]
  simp only [State.byteEvent, State.afterReads_phase, hp, State.lengthByte]
  rfl

/-- From RxBody, the bytes that complete the body lead to its decoding (R153). -/
theorem run_rxBody {rest : Bytes} {s : State} {later : List RxEvent} (hp : s.phase = .rxBody)
    (hq : ∀ x ∈ s.resetInput, x = false) (hne : rest ≠ []) (hl : s.rxBody.length + rest.length = s.rxLen.toNat)
    (hx : s.rxStream = rest.map .byte ++ later) :
    core.run rest.length s = .next (s.answered rest.length later s.rxLen (s.rxBody ++ rest)) := by
  induction rest generalizing s with
  | nil => exact absurd rfl hne
  | cons b rest ih =>
    have hs := step_bodyByte hp hq hx
    rw [List.length_cons] at hl
    by_cases hz : rest = []
    · subst hz
      rw [if_pos (by simpa using hl)] at hs
      exact run_succ 0 hs
    · have more : s.rxBody.length + 1 ≠ s.rxLen.toNat := by
        have := List.length_pos_of_ne_nil hz
        omega
      rw [if_neg more] at hs
      have appended : (s.rxBody ++ [b]).length + rest.length = s.rxLen.toNat := by
        simp only [List.length_append, List.length_singleton]
        omega
      calc core.run (rest.length + 1) s
        _ = core.run rest.length ((s.afterReads 1 (rest.map .byte ++ later)).appendBody b) := run_succ _ hs
        _ = .next ((s.afterReads 1 (rest.map .byte ++ later)).answered rest.length later s.rxLen
              ((s.rxBody ++ [b]) ++ rest)) := ih hp (quiet_drop hq 1) hz appended rfl
        _ = .next (s.answered (rest.length + 1) later s.rxLen (s.rxBody ++ b :: rest)) := by
          rw [State.afterReads_answered, List.append_assoc, List.singleton_append]

/-- From RxLength, the length byte and the body it counts lead to the body's decoding (R152, R153). -/
theorem run_rxLength {s : State} {len : Byte} {body : Bytes} {later : List RxEvent} (hp : s.phase = .rxLength)
    (hq : ∀ x ∈ s.resetInput, x = false) (hl : body.length = len.toNat)
    (hx : s.rxStream = .byte len :: (body.map .byte ++ later)) :
    core.run (body.length + 1) s = .next (s.answered (body.length + 1) later len body) := by
  have hs := step_lengthByte hp hq hx
  by_cases hz : body = []
  · subst hz
    rw [if_pos (BitVec.eq_of_toNat_eq hl.symm)] at hs
    exact run_succ 0 hs
  · have hlen : len ≠ 0#8 := by
      rintro rfl
      exact hz (List.eq_nil_of_length_eq_zero hl)
    rw [if_neg hlen] at hs
    calc core.run (body.length + 1) s
      _ = core.run body.length _ := run_succ _ hs
      _ = .next ((s.afterReads 1 (body.map .byte ++ later)).answered body.length later len body) :=
        run_rxBody rfl (quiet_drop hq 1) hz ((Nat.zero_add _).trans hl) rfl
      _ = .next (s.answered (body.length + 1) later len body) := by rw [State.afterReads_answered]

/-- From RxHeader, the header and what follows it lead to the body's decoding (R151 to R153). -/
theorem run_rxHeader {s : State} {len : Byte} {body : Bytes} {later : List RxEvent} (hp : s.phase = .rxHeader)
    (hq : ∀ x ∈ s.resetInput, x = false) (hl : body.length = len.toNat)
    (hx : s.rxStream = .byte 0xA0#8 :: .byte len :: (body.map .byte ++ later)) :
    core.run (body.length + 2) s = .next (s.answered (body.length + 2) later len body) :=
  calc core.run (body.length + 2) s
    _ = core.run (body.length + 1) _ := run_succ _ (step_header hp hq hx)
    _ = .next ((s.afterReads 1 (.byte len :: (body.map .byte ++ later))).answered (body.length + 1) later len body) :=
      run_rxLength rfl (quiet_drop hq 1) hl rfl
    _ = .next (s.answered (body.length + 2) later len body) := by rw [State.afterReads_answered]

/-- Settles O58: the write step leads to RxHeader, from where the response is read to its end. -/
theorem exchangeDecodesTheWholeResponse : Obligations.ExchangeDecodesTheWholeResponse := by
  intro s len body later answers hp hq hw hl hx
  obtain ⟨quiet, hq'⟩ := resetAsserted_of_quiet hq
  refine ⟨((s.sampleReset.takeWriteAnswer answers).transmit .writeOk).answered (body.length + 2) later len body, ?_, ?_⟩
  · rw [Nat.add_comm, run_succ _ (step_transmit hp quiet hw)]
    exact run_rxHeader rfl hq' hl hx
  · simp [State.answered, State.transmit_eq, Nat.add_comm]

end Sys2Proof.Machine

/-! ### Encodings (R74, R84): payloads and the decoder are inverse to each other -/

namespace Sys2Proof

open Machine

/-- ReadTag has an encoding when its membank byte names a bank (R74, R76). -/
theorem encodable_read (m a c : Byte) : (Instr.read m a c).encodable = true ↔ membankOk m = true := by
  simp [Instr.encodable, Instr.membankChecked, Instr.passwordChecked, Instr.dataChecked, Instr.modeChecked]

/-- WriteTag has an encoding when its membank byte names a bank and its byte sequences have their lengths (R74, R124, R125). -/
theorem encodable_write (m a c : Byte) (pw d : Bytes) :
    (Instr.write m pw a c d).encodable = true ↔
      membankOk m = true ∧ pw.length = 4 ∧ d.length = 2 * c.toNat := by
  simp [Instr.encodable, Instr.membankChecked, Instr.passwordChecked, Instr.dataChecked, Instr.modeChecked,
    passwordLengthOk, dataLengthOk, Config.passwordLen, Config.wordBytes, and_assoc]

/-- SetBuzzer has an encoding when its mode byte names a mode (R74, R77). -/
theorem encodable_buzzer (m : Byte) : (Instr.buzzer m).encodable = true ↔ modeOk m = true := by
  simp [Instr.encodable, Instr.membankChecked, Instr.passwordChecked, Instr.dataChecked, Instr.modeChecked]

/-- The operand fields of WriteTag are read back, data of the length word_cnt asks for included (R74). -/
theorem parseWrite_append {m c : Byte} {pw d : Bytes} (hm : membankOk m = true) (hp : pw.length = 4)
    (hd : d.length = 2 * c.toNat) (a : Byte) (rest : Bytes) :
    parseWrite (pw ++ m :: a :: c :: (d ++ rest)) = .ok (.write m pw a c d, rest) := by
  obtain ⟨p0, p1, p2, p3, rfl⟩ := List.length_eq_four.mp hp
  have cut : Config.wordBytes * c.toNat = d.length := hd.symm
  simp [parseWrite, hm, cut]

/-- What parseInventory reads: any repeat byte (R74, R86). -/
theorem parseInventory_ok {s rest : Bytes} {i : Instr} (h : parseInventory s = .ok (i, rest)) :
    ∃ r, i = .inventory r ∧ s = r :: rest := by
  cases s with
  | nil => cases h
  | cons r s => cases h; exact ⟨r, rfl, rfl⟩

/-- What parseBuzzer reads: a mode byte that names a mode (R74, R77). -/
theorem parseBuzzer_ok {s rest : Bytes} {i : Instr} (h : parseBuzzer s = .ok (i, rest)) :
    ∃ m, i = .buzzer m ∧ modeOk m = true ∧ s = m :: rest := by
  cases s with
  | nil => cases h
  | cons m s =>
    rw [parseBuzzer] at h
    split at h
    · next hm => cases h; exact ⟨m, rfl, hm, rfl⟩
    · cases h

/-- Settles O7, command by command: the opcode selects the row of R84 and its parser reads the operands back. -/
theorem decodeInvertsEncode : Obligations.DecodeInvertsEncode := by
  intro i rest h
  cases i with
  | reset => rfl
  | getid => rfl
  | inventory r => rfl
  | read m a c =>
    rw [encodable_read] at h
    simp [encode, decode_eq, parseRead, h]
  | write m pw a c d =>
    obtain ⟨hm, hp, hd⟩ := (encodable_write ..).mp h
    simp [encode, decode_eq, parseWrite_append hm hp hd]
  | buzzer m =>
    rw [encodable_buzzer] at h
    simp [encode, decode_eq, parseBuzzer, h]

/-- Settles O8, opcode by opcode of R84, each parser by what it reads. -/
theorem decodeReadsOnlyEncodings : Obligations.DecodeReadsOnlyEncodings := by
  intro s rest i h
  cases s with
  | nil => cases h
  | cons op s =>
    rw [decode_eq] at h
    split_ifs at h with h70 h81 h82 h89 h7A h68
    · cases h; exact ⟨rfl, by simp [h70, encode]⟩
    · obtain ⟨m, a, c, rfl, hm, rfl⟩ := parseRead_ok h
      exact ⟨(encodable_read ..).mpr hm, by simp [h81, encode]⟩
    · obtain ⟨m, pw, a, c, d, rfl, hm, hp, hd, rfl⟩ := parseWrite_ok h
      exact ⟨(encodable_write ..).mpr ⟨hm, hp, hd⟩, by simp [h82, encode]⟩
    · obtain ⟨r, rfl, rfl⟩ := parseInventory_ok h
      exact ⟨rfl, by simp [h89, encode]⟩
    · obtain ⟨m, rfl, hm, rfl⟩ := parseBuzzer_ok h
      exact ⟨(encodable_buzzer m).mpr hm, by simp [h7A, encode]⟩
    · cases h; exact ⟨rfl, by simp [h68, encode]⟩

/-- A payload begins with its command's opcode (R74, R84). -/
theorem encode_eq_opcode_cons (i : Instr) : encode i = i.opcode :: (encode i).tail := by
  cases i <;> rfl

/-- No operand parser answers `unknownOpcode`: a parser refuses operands, never the opcode (R85). -/
theorem parse_ne_unknownOpcode (s : Bytes) (op : Byte) :
    parseRead s ≠ .error (.unknownOpcode op) ∧ parseWrite s ≠ .error (.unknownOpcode op) ∧
    parseInventory s ≠ .error (.unknownOpcode op) ∧ parseBuzzer s ≠ .error (.unknownOpcode op) := by
  refine ⟨?_, ?_, ?_, ?_⟩
  · unfold parseRead
    split
    · split <;> simp
    · simp
  · unfold parseWrite
    split
    · split
      · split <;> simp
      · simp
    · simp
  · cases s <;> simp [parseInventory]
  · cases s with
    | nil => simp [parseBuzzer]
    | cons m s => rw [parseBuzzer]; split <;> simp

/-- Settles O10: a decoded command's payload begins with its opcode (O8), and only a byte outside the map is unknown. -/
theorem firstPayloadByteSelectsCommand : Obligations.FirstPayloadByteSelectsCommand := by
  intro op rest
  refine ⟨fun i tail h => ?_, fun h hop => ?_, fun h => ?_⟩
  · obtain ⟨-, e⟩ := decodeReadsOnlyEncodings _ _ _ h
    rw [encode_eq_opcode_cons] at e
    obtain rfl : op = i.opcode := (List.cons.inj e).1
    cases i <;> rfl
  · obtain ⟨hr, hw, hi, hb⟩ := parse_ne_unknownOpcode rest op
    simp only [List.mem_cons, List.not_mem_nil, or_false] at hop
    rw [decode_eq] at h
    rcases hop with rfl | rfl | rfl | rfl | rfl | rfl <;> simp [hr, hw, hi, hb] at h
  · simp only [List.mem_cons, List.not_mem_nil, or_false, not_or] at h
    obtain ⟨h68, h70, h7A, h81, h82, h89⟩ := h
    simp only [decode_eq, if_neg h68, if_neg h70, if_neg h7A, if_neg h81, if_neg h82, if_neg h89]

end Sys2Proof

/-! ### Frames (R70 to R73): the bytes of a built frame, and a whole frame read back -/

namespace Sys2Proof.Machine

@[simp] theorem framePrefix_length (p : Bytes) (broadcast : Bool) : (framePrefix p broadcast).length = 3 + p.length := by
  simp [framePrefix]
  omega

/-- The length byte counts address, payload and checksum, without wrap-around (R71). -/
theorem ofNat_frameLength_toNat {n : Nat} (h : n ≤ 253) : (BitVec.ofNat 8 (n + 2)).toNat = n + 2 := by
  rw [BitVec.toNat_ofNat]
  omega

/-- A sequence with its checksum appended verifies (R104). -/
theorem verifyFrame_append_checksum (s : Bytes) : verifyFrame (s ++ [checksum s]) = true := by
  simp [verifyFrame]

/-- Settles O3, from the layout of the frame and its sum. -/
theorem frameLengthAndChecksumBytes : Obligations.FrameLengthAndChecksumBytes := by
  intro p broadcast f h
  obtain ⟨hp, rfl⟩ := buildFrame_ok_iff.mp h
  have hlen := ofNat_frameLength_toNat hp
  refine ⟨hp, by simp [Nat.add_comm], ⟨_, rfl, hlen, by omega⟩, ?_, specFrame_sum p broadcast⟩
  have hl := framePrefix_length p broadcast
  rw [← framePrefix_eq, List.take_left' hl, ← hl, List.getElem?_concat_length]

/-- Settles O4: a payload that fits is framed as `specFrame`, whose bytes are read off by index. -/
theorem buildFrameLayout : Obligations.BuildFrameLayout := by
  intro p broadcast
  refine ⟨fun hp => ⟨specFrame p broadcast, buildFrame_ok_iff.mpr ⟨hp, rfl⟩, rfl, rfl, rfl, fun k hk => ?_, ?_⟩,
    fun hp => by rw [buildFrame_eq, if_pos hp]⟩
  · rw [Nat.add_comm]
    simp [specFrame, List.getElem?_append_left hk]
  · simp [Nat.add_comm]

/-- The address byte says whether the frame is broadcast (R72). -/
theorem decodeAddress_addressByte (broadcast : Bool) : decodeAddress (addressByte broadcast) = some broadcast := by
  cases broadcast <;> rfl

/-- A frame all of whose fields pass their checks is read as the command its payload is (R70 to R74). -/
theorem decodeFrame_of_fields {len a op sum : Byte} {operands : Bytes} {i : Instr} {broadcast : Bool}
    (hlen : len.toNat = operands.length + 3)
    (hsum : verifyFrame (Config.header :: len :: a :: op :: (operands ++ [sum])) = true)
    (ha : decodeAddress a = some broadcast) (hd : decode (op :: operands) = .ok (i, [])) :
    decodeFrame (Config.header :: len :: a :: op :: (operands ++ [sum])) = .ok (broadcast, i) := by
  have payload : (op :: (operands ++ [sum])).dropLast = op :: operands :=
    List.dropLast_concat (l₁ := op :: operands)
  simp [decodeFrame, hlen, hsum, ha, payload, hd]

/-- A built frame whose payload is exactly one command is read back as that command (R70 to R74). -/
theorem decodeFrame_specFrame {p : Bytes} {i : Instr} (broadcast : Bool) (hp : p.length ≤ 253)
    (h : decode p = .ok (i, [])) : decodeFrame (specFrame p broadcast) = .ok (broadcast, i) := by
  cases p with
  | nil => cases h
  | cons op operands =>
    have verifies := verifyFrame_append_checksum (framePrefix (op :: operands) broadcast)
    rw [← framePrefix_eq]
    exact decodeFrame_of_fields (ofNat_frameLength_toNat hp) verifies (decodeAddress_addressByte broadcast) h

/-- Settles O9: the frame's fields are checked one by one, and its payload is decoded by O7. -/
theorem decodeFrameInvertsBuild : Obligations.DecodeFrameInvertsBuild := by
  intro i broadcast f hi h
  obtain ⟨hp, rfl⟩ := buildFrame_ok_iff.mp h
  have decoded := decodeInvertsEncode i [] hi
  rw [List.append_nil] at decoded
  exact decodeFrame_specFrame broadcast hp decoded

end Sys2Proof.Machine

/-! ### The encoder (R126 to R136): every well-formed command it may send is answered with its payload -/

namespace Sys2Proof.Machine

/-- A well-formed command, confirmed where it is destructive, is answered with its payload (R128, R129). -/
theorem encodeCommand_of_wellFormed {cfg : Cfg} {i : Instr} {confirm : Bool} (hw : Instr.WellFormed cfg i)
    (hc : i.destructive cfg = true → confirm = true) : encodeCommand cfg i confirm = .ok (encode i) := by
  cases i with
  | reset => rfl
  | getid => rfl
  | inventory r => rfl
  | buzzer m =>
    have mode := (wellFormed_buzzer cfg m).mp hw
    simp [encodeCommand, encodeSetBuzzer, mode, encode, Config.opBuzzer]
  | read m a c =>
    have checks := (checkRange_none_iff ..).mpr ((wellFormed_read ..).mp hw)
    simp [encodeCommand, encodeRead, checks, encode, Config.opRead]
  | write m pw a c d =>
    have checks := (checkWrite_none_iff ..).mpr ((wellFormed_write ..).mp hw)
    have confirmed : isDestructive cfg m a = true → confirm = true := hc
    simpa [encodeCommand, encodeWrite, checks, encode, Config.opWrite] using confirmed

/-- A destructive write is answered with a payload only when it is confirmed (R127, R128). -/
theorem confirm_of_encodeCommand_ok {cfg : Cfg} {i : Instr} {confirm : Bool} {p : Bytes}
    (h : encodeCommand cfg i confirm = .ok p) (hd : i.destructive cfg = true) : confirm = true := by
  cases i with
  | write m pw a c d =>
    simp only [encodeCommand, encodeWrite] at h
    split at h
    · cases h
    · have hd : isDestructive cfg m a = true := hd
      cases confirm with
      | true => rfl
      | false => simp [hd] at h
  | reset | read | inventory | buzzer | getid => cases hd

/-- Settles O12: a payload answered is a well-formed command's encoding, confirmed where that is asked, and conversely. -/
theorem encoderAnswersTheEncoding : Obligations.EncoderAnswersTheEncoding := by
  intro cfg i confirm p
  constructor
  · intro h
    obtain ⟨hw, hp⟩ := encodeCommand_ok h
    exact ⟨hw, confirm_of_encodeCommand_ok h, hp⟩
  · rintro ⟨hw, hc, rfl⟩
    exact encodeCommand_of_wellFormed hw hc

end Sys2Proof.Machine

/-! ### Response bodies (R78 to R82): a laid-out body decodes to its fields, and a ReadResult tiles its body -/

namespace Sys2Proof.Machine

/-- The element of a sequence after a front of known length. -/
theorem byteAt_append_cons (p : Bytes) (b : Byte) (q : Bytes) {i : Nat} (hi : p.length = i) :
    byteAt (p ++ b :: q) i = b := by
  subst hi
  simp [byteAt, List.getD]

/-- Four bytes select the error form, whatever opcode is pending (R156, R157). -/
theorem decodeLayout_error (cfg : Cfg) (op : Byte) (body : Bytes) (w : Warn) :
    decodeLayout cfg op 4#8 body w = decodeErrorBody cfg body w := rfl

theorem decodeLayout_read (cfg : Cfg) {len : Byte} (h : len.toNat ≠ 4) (body : Bytes) (w : Warn) :
    decodeLayout cfg 0x81#8 len body w = decodeReadBody len body w := by
  simp [decodeLayout, Config.errorStatusLen, h, Config.opRead]

theorem decodeLayout_write (cfg : Cfg) {len : Byte} (h : len.toNat ≠ 4) (body : Bytes) (w : Warn) :
    decodeLayout cfg 0x82#8 len body w = decodeWriteBody cfg len body w := by
  simp [decodeLayout, Config.errorStatusLen, h, Config.opRead, Config.opWrite]

theorem decodeLayout_raw (cfg : Cfg) {op len : Byte} (h : len.toNat ≠ 4) (hr : op ≠ 0x81#8) (hw : op ≠ 0x82#8)
    (body : Bytes) (w : Warn) : decodeLayout cfg op len body w = decodeRawBody len body w := by
  simp [decodeLayout, Config.errorStatusLen, h, Config.opRead, hr, Config.opWrite, hw]

/-- Settles O43: with the checksum passed, length 4 selects the error form before the opcode is looked at. -/
theorem fourByteBodyIsErrorResponse : Obligations.FourByteBodyIsErrorResponse := by
  intro cfg op addr cmd code sum hc
  rw [decodeBody_of_passes rfl (by decide) hc, decodeLayout_error]
  rfl

/-- Settles O44: neither the error form nor one of the two tag layouts is selected, and the raw form keeps the middle. -/
theorem otherResponsesAreRaw : Obligations.OtherResponsesAreRaw := by
  intro cfg op len addr cmd sum data hr hw hlen h4 hc
  have fits : ([addr, cmd] ++ data ++ [sum]).length = len.toNat := by simpa using hlen
  have middle : slice ([addr, cmd] ++ data ++ [sum]) 2 (len.toNat - 2) = data :=
    slice_middle _ _ _ rfl (by omega)
  rw [decodeBody_of_passes fits (by omega) hc, decodeLayout_raw cfg h4 hr hw, decodeRawBody, middle]
  rfl

/-- A read body whose lengths DL and RL leave a nonnegative EPC length is decoded field by field (R158 to R161). -/
theorem decodeReadBody_of_lengths {len dl rl : Byte} {body : Bytes} {e : Nat} (hdl : byteAt body 4 = dl)
    (hrl : byteAt body (7 + dl.toNat) = rl) (hlen : 9 + dl.toNat ≤ len.toNat) (he : e + rl.toNat + 2 = dl.toNat)
    (w : Warn) : decodeReadBody len body w = readResultOf body len.toNat dl.toNat e w := by
  have h6 : ¬ len.toNat < 6 := by omega
  have h9 : ¬ len.toNat < 9 + dl.toNat := by omega
  have epc : (dl.toNat : Int) - rl.toNat - 2 = e := by omega
  simp [decodeReadBody, h6, h9, hdl, hrl, epc]

/-- A write body whose length DL leaves a nonnegative EPC length is decoded field by field (R163 to R165). -/
theorem decodeWriteBody_of_lengths (cfg : Cfg) {len dl : Byte} {body : Bytes} {e : Nat} (hdl : byteAt body 4 = dl)
    (hlen : 10 + dl.toNat ≤ len.toNat) (he : e + 2 = dl.toNat) (w : Warn) :
    decodeWriteBody cfg len body w = writeResultOf cfg body len.toNat dl.toNat e w := by
  have h6 : ¬ len.toNat < 6 := by omega
  have h10 : ¬ len.toNat < 10 + dl.toNat := by omega
  have epc : (dl.toNat : Int) - 2 = e := by omega
  simp [decodeWriteBody, h6, h10, hdl, epc]

/-- What a read response's body and a write response's body have in common (R80, R81): address, command, two count bytes,
DL, PC, EPC, CRC, and a rest. -/
def tagBody (addr cmd high low dl : Byte) (pc epc crc rest : Bytes) : Bytes :=
  [addr, cmd, high, low, dl] ++ pc ++ epc ++ crc ++ rest

theorem readBody_eq (addr cmd high low dl rl sum : Byte) (pc epc crc data trailer : Bytes) :
    readBody addr cmd high low dl pc epc crc data rl trailer sum =
      tagBody addr cmd high low dl pc epc crc (data ++ rl :: (trailer ++ [sum])) := by
  simp [readBody, tagBody]

theorem writeBody_eq (addr cmd high low dl status count sum : Byte) (pc epc crc trailer : Bytes) :
    writeBody addr cmd high low dl pc epc crc status count trailer sum =
      tagBody addr cmd high low dl pc epc crc (status :: count :: (trailer ++ [sum])) := by
  simp [writeBody, tagBody]

section tagBody

variable {addr cmd high low dl : Byte} {pc epc crc rest : Bytes}

theorem tagBody_length (hpc : pc.length = 2) (hcrc : crc.length = 2) :
    (tagBody addr cmd high low dl pc epc crc rest).length = 9 + epc.length + rest.length := by
  simp [tagBody, hpc, hcrc]
  omega

/-- The spans of the shared part (R161, R165). -/
theorem tagBody_spans (hpc : pc.length = 2) (hcrc : crc.length = 2) :
    slice (tagBody addr cmd high low dl pc epc crc rest) 5 6 = pc ∧
    slice (tagBody addr cmd high low dl pc epc crc rest) 7 (6 + epc.length) = epc ∧
    slice (tagBody addr cmd high low dl pc epc crc rest) (7 + epc.length) (8 + epc.length) = crc := by
  refine ⟨?_, ?_, ?_⟩
  · rw [tagBody, List.append_assoc _ epc, List.append_assoc _ (epc ++ crc)]
    exact slice_middle _ _ _ rfl (by omega)
  · rw [tagBody, List.append_assoc _ crc]
    exact slice_middle _ _ _ (by simp [hpc]) (by omega)
  · exact slice_middle _ _ _ (by simp [hpc]; omega) (by omega)

/-- An index past the shared part falls in the rest. -/
theorem byteAt_tagBody (hpc : pc.length = 2) (hcrc : crc.length = 2) (front : Bytes) (b : Byte) (back : Bytes) {i : Nat}
    (hi : 9 + epc.length + front.length = i) :
    byteAt (tagBody addr cmd high low dl pc epc crc (front ++ b :: back)) i = b := by
  rw [tagBody, ← List.append_assoc]
  exact byteAt_append_cons _ _ _ (by simp [hpc, hcrc]; omega)

/-- A span past the shared part falls in the rest. -/
theorem slice_tagBody (hpc : pc.length = 2) (hcrc : crc.length = 2) (front span back : Bytes) {i j : Nat}
    (hi : 9 + epc.length + front.length = i) (hj : j + 1 = i + span.length) :
    slice (tagBody addr cmd high low dl pc epc crc (front ++ span ++ back)) i j = span := by
  rw [tagBody, ← List.append_assoc, ← List.append_assoc]
  exact slice_middle _ _ _ (by simp [hpc, hcrc]; omega) hj

end tagBody

/-- The fields of a read body are found where the table of R80 puts them (R161, R162). -/
theorem readResultOf_readBody {addr cmd high low dl rl sum : Byte} {pc epc crc data trailer : Bytes}
    (hpc : pc.length = 2) (hcrc : crc.length = 2) {len d : Nat} (hd : epc.length + data.length + 2 = d)
    (hlen : len = 9 + d + trailer.length) (w : Warn) :
    readResultOf (readBody addr cmd high low dl pc epc crc data rl trailer sum) len d epc.length w =
      .readResult
        { tagCount := high.toNat + low.toNat, pc := pc, epc := epc, crc := crc, data := data,
          addr := addr, cmd := cmd, trailer := trailer, warn := w } := by
  rw [readBody_eq]
  obtain ⟨pcSpan, epcSpan, crcSpan⟩ := tagBody_spans (addr := addr) (cmd := cmd) (high := high) (low := low) (dl := dl)
    (epc := epc) (rest := data ++ rl :: (trailer ++ [sum])) hpc hcrc
  have dataSpan : slice (tagBody addr cmd high low dl pc epc crc (data ++ rl :: (trailer ++ [sum])))
      (9 + epc.length) (6 + d) = data :=
    slice_tagBody hpc hcrc [] data _ rfl (by omega)
  have trailerSpan : slice (tagBody addr cmd high low dl pc epc crc (data ++ rl :: (trailer ++ [sum])))
      (8 + d) (len - 2) = trailer := by
    have regroup : data ++ rl :: (trailer ++ [sum]) = (data ++ [rl]) ++ trailer ++ [sum] := by simp
    rw [regroup]
    exact slice_tagBody hpc hcrc _ trailer _ (by simp; omega) (by omega)
  simp only [readResultOf, pcSpan, epcSpan, crcSpan, dataSpan, trailerSpan]
  rfl

/-- The fields of a write body are found where the table of R81 puts them (R162, R165). -/
theorem writeResultOf_writeBody (cfg : Cfg) {addr cmd high low dl status count sum : Byte} {pc epc crc trailer : Bytes}
    (hpc : pc.length = 2) (hcrc : crc.length = 2) {len d : Nat} (hd : epc.length + 2 = d)
    (hlen : len = 10 + d + trailer.length) (w : Warn) :
    writeResultOf cfg (writeBody addr cmd high low dl pc epc crc status count trailer sum) len d epc.length w =
      .writeResult
        { tagCount := high.toNat + low.toNat, pc := pc, epc := epc, crc := crc,
          statusCategory := catalog cfg status, statusCode := status, writeCount := count,
          addr := addr, cmd := cmd, trailer := trailer, warn := w } := by
  rw [writeBody_eq]
  obtain ⟨pcSpan, epcSpan, crcSpan⟩ := tagBody_spans (addr := addr) (cmd := cmd) (high := high) (low := low) (dl := dl)
    (epc := epc) (rest := status :: count :: (trailer ++ [sum])) hpc hcrc
  have statusByte : byteAt (tagBody addr cmd high low dl pc epc crc (status :: count :: (trailer ++ [sum]))) (7 + d) =
      status :=
    byteAt_tagBody hpc hcrc [] status _ (by simp; omega)
  have countByte : byteAt (tagBody addr cmd high low dl pc epc crc (status :: count :: (trailer ++ [sum]))) (8 + d) =
      count :=
    byteAt_tagBody hpc hcrc [status] count _ (by simp; omega)
  have trailerSpan : slice (tagBody addr cmd high low dl pc epc crc (status :: count :: (trailer ++ [sum])))
      (9 + d) (len - 2) = trailer :=
    slice_tagBody hpc hcrc [status, count] trailer _ (by simp; omega) (by omega)
  simp only [writeResultOf, pcSpan, epcSpan, crcSpan, statusByte, countByte, trailerSpan]
  rfl

/-- Settles O40: DL and RL stand where the decoder reads them, and each span is the field laid out there. -/
theorem readBodyDecodesToItsFields : Obligations.ReadBodyDecodesToItsFields := by
  intro cfg len addr cmd high low dl rl sum pc epc crc data trailer hpc hcrc hdata hdl hlen hc
  have total : len.toNat = 9 + dl.toNat + trailer.length := by
    rw [readBody_eq, tagBody_length hpc hcrc] at hlen
    simp only [List.length_append, List.length_cons, List.length_nil] at hlen
    omega
  have hrl : byteAt (readBody addr cmd high low dl pc epc crc data rl trailer sum) (7 + dl.toNat) = rl := by
    rw [readBody_eq]
    exact byteAt_tagBody hpc hcrc data rl _ (by omega)
  rw [decodeBody_of_passes hlen (by omega) hc, decodeLayout_read cfg (by omega),
    decodeReadBody_of_lengths (dl := dl) rfl hrl (by omega) hdl,
    readResultOf_readBody hpc hcrc (by omega) total]

/-- Settles O41: DL stands where the decoder reads it, and each span is the field laid out there. -/
theorem writeBodyDecodesToItsFields : Obligations.WriteBodyDecodesToItsFields := by
  intro cfg len addr cmd high low dl status count sum pc epc crc trailer hpc hcrc hdl hlen hc
  have total : len.toNat = 10 + dl.toNat + trailer.length := by
    rw [writeBody_eq, tagBody_length hpc hcrc] at hlen
    simp only [List.length_append, List.length_cons, List.length_nil] at hlen
    omega
  rw [decodeBody_of_passes hlen (by omega) hc, decodeLayout_write cfg (by omega),
    decodeWriteBody_of_lengths cfg (dl := dl) rfl (by omega) hdl,
    writeResultOf_writeBody cfg hpc hcrc hdl total]

/-- Only a pending ReadTag gives a ReadResult, and only outside the error form (R156, R157). -/
theorem decodeLayout_readResult {cfg : Cfg} {op len : Byte} {body : Bytes} {w : Warn} {r : ReadFields}
    (h : decodeLayout cfg op len body w = .readResult r) : decodeReadBody len body w = .readResult r := by
  have h4 : len.toNat ≠ 4 := by
    intro h4
    obtain rfl : len = 4#8 := BitVec.eq_of_toNat_eq h4
    cases h
  rcases decodeLayout_cases cfg op len body w with ⟨-, e⟩ | ⟨_, _, -, e⟩ | ⟨_, rfl, -, -⟩ | ⟨_, -, -, e⟩ | ⟨-, -, e⟩
  · cases e.symm.trans h
  · cases e.symm.trans h
  · rwa [decodeLayout_read cfg h4] at h
  · cases e.symm.trans h
  · cases e.symm.trans h

/-- The read layout answers a ReadResult where its lengths are in order (R158 to R161): DL and RL fit, and the EPC
length is what they leave. -/
theorem decodeReadBody_readResult {len : Byte} {body : Bytes} {w : Warn} {r : ReadFields}
    (h : decodeReadBody len body w = .readResult r) :
    ∃ e, 9 + (byteAt body 4).toNat ≤ len.toNat ∧
      e + (byteAt body (7 + (byteAt body 4).toNat)).toNat + 2 = (byteAt body 4).toNat ∧
      readResultOf body len.toNat (byteAt body 4).toNat e w = .readResult r := by
  simp only [decodeReadBody] at h
  split_ifs at h with h6 h9 he
  · cases h
  · cases h
  · cases h
  · exact ⟨_, by omega, by omega, h⟩

/-- A ReadResult of `decode_body` is the read layout's (R154 to R157). -/
theorem decodeBody_readResult {cfg : Cfg} {op len : Byte} {body : Bytes} {r : ReadFields}
    (h : decodeBody cfg op len body = .readResult r) : ∃ w, decodeReadBody len body w = .readResult r := by
  unfold decodeBody at h
  split at h
  · cases h
  · split at h
    · cases h
    · exact ⟨_, decodeLayout_readResult h⟩

/-- The five single bytes before the PC are the front of the body (R80). -/
theorem slice_zero_four {s : Bytes} (h : 4 < s.length) :
    slice s 0 4 = [byteAt s 0, byteAt s 1, byteAt s 2, byteAt s 3, byteAt s 4] := by
  match s, h with
  | _ :: _ :: _ :: _ :: _ :: _, _ => rfl

/-- A slice and one that begins where it ends join. -/
theorem slice_join (s : Bytes) {i j k l : Nat} (hl : l = j + 1) (h1 : i ≤ l) (h2 : j ≤ k) :
    slice s i j ++ slice s l k = slice s i k := by
  subst hl
  exact slice_append_slice s i j k h1 h2

/-- The spans of a ReadResult and the bytes between them are the body (R161, R174). -/
theorem readBody_of_spans {body : Bytes} {len d e : Nat} (hl : body.length = len) (he : e + 2 ≤ d) (hd : 9 + d ≤ len) :
    readBody (byteAt body 0) (byteAt body 1) (byteAt body 2) (byteAt body 3) (byteAt body 4) (slice body 5 6)
      (slice body 7 (6 + e)) (slice body (7 + e) (8 + e)) (slice body (9 + e) (6 + d)) (byteAt body (7 + d))
      (slice body (8 + d) (len - 2)) (byteAt body (len - 1)) = body := by
  rw [readBody, ← slice_zero_four (by omega), ← slice_one _ (7 + d) (by omega), ← slice_one _ (len - 1) (by omega)]
  -- Seven seams, from the front: each span begins one past the end of the one before it.
  iterate 7 rw [slice_join body (by omega) (by omega) (by omega)]
  exact slice_all body _ (by omega)

/-- Settles O42: the lengths the decoder checked place every span, and the spans join to the body. -/
theorem readResultTilesTheBody : Obligations.ReadResultTilesTheBody := by
  intro cfg op len body r hl h
  obtain ⟨w, hb⟩ := decodeBody_readResult h
  obtain ⟨e, hd, he, hr⟩ := decodeReadBody_readResult hb
  obtain rfl := Result.readResult.inj hr
  refine ⟨?_, ?_, byteAt body 2, byteAt body 3, byteAt body 4, byteAt body (7 + (byteAt body 4).toNat),
    byteAt body (len.toNat - 1), rfl, ?_, ?_, (readBody_of_spans hl (by omega) hd).symm⟩
  · exact slice_length _ _ _ (by omega)
  · rw [slice_length _ _ _ (by omega)]; omega
  · rw [slice_length _ _ _ (by omega)]; omega
  · rw [slice_length _ _ _ (by omega)]; omega

end Sys2Proof.Machine

/-! ### The Frame Codec (R100 to R106): the checksum's laws, and which byte sequences verify -/

namespace Sys2Proof.Machine

/-- Sum and checksum cancel mod 256 (R101 a). -/
theorem byteSum_add_checksum (s : Bytes) : (byteSum s + (checksum s).toNat) % 256 = 0 :=
  (checksum_eq_iff s _).mp rfl

theorem checksum_append_toNat (s t : Bytes) :
    (checksum (s ++ t)).toNat = ((checksum s).toNat + (checksum t).toNat) % 256 := by
  simp only [checksum_toNat, byteSum_append]
  omega

theorem checksum_perm {s t : Bytes} (h : s.Perm t) : checksum s = checksum t := by
  rw [checksum, checksum, byteSum_perm h]

theorem checksum_eq_zero_iff (s : Bytes) : checksum s = 0#8 ↔ byteSum s % 256 = 0 :=
  checksum_eq_iff s 0#8

@[simp] theorem verifyFrame_nil : verifyFrame [] = false := rfl

/-- A non-empty sequence verifies when its last byte is the checksum of those before it (R104). -/
theorem verifyFrame_append_singleton (s : Bytes) (b : Byte) : verifyFrame (s ++ [b]) = true ↔ checksum s = b := by
  simp [verifyFrame]

/-- Settles O1: the value is the definition's, and the rule's examples are evaluated. -/
theorem checksumNegatesByteSum : Obligations.ChecksumNegatesByteSum :=
  ⟨fun s => ⟨checksum_toNat s, checksum_eq_zero_iff s⟩, by decide⟩

/-- Settles O2: each law is a lemma about `checksum`. -/
theorem checksumLaws : Obligations.ChecksumLaws := fun s t =>
  ⟨byteSum_add_checksum s, checksum_eq_iff s, checksum_append_toNat s t, checksum_perm⟩

/-- Settles O5: a non-empty sequence ends in a byte `b`, and `b` is the checksum of the rest exactly when it completes
the sum to 0 mod 256. -/
theorem verifyFrameIffSumIsZero : Obligations.VerifyFrameIffSumIsZero := by
  intro f
  change verifyFrame f = true ↔ f ≠ [] ∧ byteSum f % 256 = 0
  rcases List.eq_nil_or_concat' f with rfl | ⟨s, b, rfl⟩
  · simp
  · rw [verifyFrame_append_singleton, checksum_eq_iff]
    simp

/-- Settles O6: the built frame is the covered bytes with their checksum appended. -/
theorem builtFrameVerifies : Obligations.BuiltFrameVerifies := by
  intro p broadcast hp
  refine ⟨specFrame p broadcast, buildFrame_ok_iff.mpr ⟨hp, rfl⟩, ?_⟩
  rw [← framePrefix_eq]
  exact verifyFrame_append_checksum _

end Sys2Proof.Machine

/-! ### A WriteTag that does not fit a frame (R103, R138) -/

namespace Sys2Proof.Machine

/-- A code names one bank only (R76). -/
theorem NamesBank.unique {cfg : Cfg} {m : Byte} {bank other : Membank} (h : NamesBank cfg m bank)
    (h' : NamesBank cfg m other) : bank = other := by
  rw [← membankOfCode_eq_some_iff] at h h'
  exact Option.some.inj (h.symm.trans h')

/-- Only an EPC bank write is destructive (R127). -/
theorem not_isDestructive_of_reserved {cfg : Cfg} {m : Byte} (h : NamesBank cfg m .reserved) (a : Byte) :
    ¬ isDestructive cfg m a = true := by
  rw [isDestructive_iff]
  rintro ⟨epc, -⟩
  cases h.unique epc

/-- The idle engine with an open link accepts a command and launches what the encoder answers (R193, R194). -/
theorem exec_open {s : State} (hp : s.phase = .idle) (hl : s.link = .opened) (i : Instr) :
    exec i s = .next (s.accept.launch (encodeCommand s.cfg i s.reqConfirm)) := by
  rw [exec_eq, s.exchange_open _ hp hl]

theorem encode_write_length (m a c : Byte) (pw d : Bytes) :
    (encode (.write m pw a c d)).length = 4 + pw.length + d.length := by
  simp [encode]
  omega

/-- Settles O23: the encoder answers the payload, since a Reserved bank write needs no confirmation, and the launch of an
overlong payload completes with FrameTooLong. -/
theorem overlongWriteIsNotFramed : Obligations.OverlongWriteIsNotFramed := by
  intro s m a c pw d hphase hlink hrange hpw hd hlong
  obtain ⟨reserved, limit⟩ := overlong_is_reserved hrange hlong
  have encoded : encodeCommand s.cfg (.write m pw a c d) s.reqConfirm = .ok (encode (.write m pw a c d)) :=
    encodeCommand_of_wellFormed ((wellFormed_write ..).mpr ⟨hrange, hpw, hd⟩)
      fun destructive => absurd destructive (not_isDestructive_of_reserved reserved a)
  have overlong : 253 < (encode (.write m pw a c d)).length := by
    rw [encode_write_length]
    omega
  refine ⟨reserved, limit, _, exec_open hphase hlink _, ?_⟩
  rw [encoded, State.launch_overlong _ overlong]
  exact s.accept_complete_from rfl

end Sys2Proof.Machine

/-! ### What the encoder answers (R121 to R128, R136, R138): payload bounds, refusals, and the destructive-write warning -/

namespace Sys2Proof.Machine

theorem head_encode (i : Instr) : (encode i).head? = some i.opcode := by
  cases i <;> rfl

/-- No bank's ceiling passes the larger of the User bank's and the configured Reserved bank's (R122). -/
theorem wordLimit_le_max (cfg : Cfg) (bank : Membank) : wordLimit cfg bank ≤ max 32 cfg.reservedWordLimit := by
  cases bank with
  | reserved => exact le_max_right ..
  | epc => exact le_max_of_le_left (show Config.epcWordLimit ≤ 32 by decide)
  | tid => exact le_max_of_le_left (show Config.tidWordLimit ≤ 32 by decide)
  | user => exact le_max_of_le_left (show Config.userWordLimit ≤ 32 by decide)

/-- Under the code of a bank, a word range is within the ceiling when it ends at or below that bank's limit (R122, R123). -/
theorem checkRange_of_names {cfg : Cfg} {m : Byte} {bank : Membank} (h : NamesBank cfg m bank) (a c : Byte) :
    checkRange cfg m a c = if wordLimit cfg bank < a.toNat + c.toNat then some .wordLimit else none := by
  simp only [checkRange, (membankOfCode_eq_some_iff cfg m bank).mpr h, gt_iff_lt]

/-- A word count within a ceiling is at most the largest ceiling (R123). -/
theorem WithinCeiling.wordCnt_le {cfg : Cfg} {m a c : Byte} (h : WithinCeiling cfg m a c) :
    c.toNat ≤ max 32 cfg.reservedWordLimit := by
  obtain ⟨bank, hbank, -⟩ := membankOfCode_cases cfg h.1
  rw [← checkRange_none_iff, checkRange_of_names ((membankOfCode_eq_some_iff ..).mp hbank)] at h
  have within : ¬ wordLimit cfg bank < a.toNat + c.toNat := by simpa using h
  have := wordLimit_le_max cfg bank
  omega

/-- The payload of a well-formed command is within the bound of R138, which only a WriteTag can come near. -/
theorem encode_length_le {cfg : Cfg} {i : Instr} (hw : Instr.WellFormed cfg i) :
    (encode i).length ≤ 8 + 2 * max 32 cfg.reservedWordLimit := by
  cases i with
  | write m pw a c d =>
    obtain ⟨hrange, hpw, hd⟩ := (wellFormed_write ..).mp hw
    have := hrange.wordCnt_le
    rw [encode_write_length]
    omega
  | reset | read | inventory | buzzer | getid =>
    simp only [encode, List.length_cons, List.length_nil]
    omega

/-- Settles O13: a payload answered is a well-formed command's encoding, whose length the word ceilings bound. -/
theorem encodedPayloadBound : Obligations.EncodedPayloadBound := by
  intro cfg i confirm p h
  obtain ⟨hw, rfl⟩ := encodeCommand_ok h
  exact ⟨encode_length_le hw, head_encode i⟩

theorem encodeRead_of_passes {cfg : Cfg} {m a c : Byte} (h : checkRange cfg m a c = none) :
    encodeRead cfg m a c = .ok [0x81#8, m, a, c] := by
  simp only [encodeRead, h, Config.opRead]

theorem encodeRead_of_fails {cfg : Cfg} {m a c : Byte} {r : ValidationReason} (h : checkRange cfg m a c = some r) :
    encodeRead cfg m a c = .err r := by
  simp only [encodeRead, h]

theorem encodeWrite_of_fails {cfg : Cfg} {m a c : Byte} {pw d : Bytes} {r : ValidationReason}
    (h : checkWrite cfg m pw a c d = some r) (confirm : Bool) : encodeWrite cfg d m pw a c confirm = .err r := by
  simp only [encodeWrite, h]

theorem encodeSetBuzzer_of_fails {m : Byte} (h : 2 < m.toNat) : encodeSetBuzzer m = .err .modeRange := by
  have refused : ¬ modeOk m = true := by
    rw [modeOk_iff]
    omega
  rw [encodeSetBuzzer, if_neg refused]

/-- ReadTag's encoder has no warning to give (R131). -/
theorem encodeRead_ne_warn (cfg : Cfg) (m a c m' a' c' : Byte) : encodeRead cfg m a c ≠ .warn m' a' c' := by
  cases h : checkRange cfg m a c with
  | none => simp [encodeRead_of_passes h]
  | some r => simp [encodeRead_of_fails h]

/-- A WriteTag that passed its checks, unconfirmed, is answered with the warning exactly in the PC/CRC region (R127, R128). -/
theorem encodeWrite_unconfirmed_iff {cfg : Cfg} {m a c : Byte} {pw d : Bytes} (h : checkWrite cfg m pw a c d = none) :
    encodeWrite cfg d m pw a c false = .warn m a c ↔ TouchesPcCrc cfg m a := by
  rw [← isDestructive_iff]
  simp [encodeWrite, h]

/-- Settles O15: past the checks only the destructive condition is left, and by the codes of R76 membank 1 names EPC. -/
theorem destructiveConditionIsEpcBelowWordTwo : Obligations.DestructiveConditionIsEpcBelowWordTwo := by
  intro cfg m a c pw d
  refine ⟨fun hrange hpw hd => ?_, encodeRead_ne_warn cfg m a c⟩
  have flagged := encodeWrite_unconfirmed_iff ((checkWrite_none_iff ..).mpr ⟨hrange, hpw, hd⟩)
  refine ⟨flagged, fun codes => ?_⟩
  rw [flagged, TouchesPcCrc, namesBank_epc_default codes]

/-- Settles O14: the outcomes are those of the range check, and the examples are ranges under the TID and EPC ceilings. -/
theorem encodeReadOutcomes : Obligations.EncodeReadOutcomes := by
  constructor
  · intro cfg m a c
    obtain ⟨outOfRange, pastCeiling, passes⟩ := checkRange_eq cfg m a c
    exact ⟨fun h => encodeRead_of_fails (outOfRange h), fun h hw => encodeRead_of_fails (pastCeiling h hw),
      fun hw => encodeRead_of_passes (passes hw)⟩
  · intro cfg codes
    have tid : NamesBank cfg 2#8 .tid := by simp [NamesBank, codes, Config.membankCodes]
    have epc : NamesBank cfg 1#8 .epc := (namesBank_epc_default codes _).mpr rfl
    exact ⟨encodeRead_of_passes (checkRange_of_names tid ..), rfl, encodeRead_of_fails (checkRange_of_names tid ..),
      encodeRead_of_fails (checkRange_of_names tid ..), encodeRead_of_passes (checkRange_of_names epc ..),
      encodeRead_of_passes (checkRange_of_names tid ..)⟩

end Sys2Proof.Machine

/-! ### Commands offered to the idle engine with an open link (R193, R194): launched, refused, or warned about -/

namespace Sys2Proof.Machine

section

variable {s : State} (hphase : s.phase = .idle) (hlink : s.link = .opened)

include hphase hlink

/-- A well-formed command whose payload fits a frame, confirmed where it is destructive, goes to Transmit (R128, R194). -/
theorem exec_launches {i : Instr} (hw : Instr.WellFormed s.cfg i) (hc : i.destructive s.cfg = true → s.reqConfirm = true)
    (hfit : (encode i).length ≤ 253) : ∃ t, exec i s = .next t ∧ LaunchedFrom s t i.opcode (encode i) := by
  refine ⟨_, exec_open hphase hlink i, ?_⟩
  rw [encodeCommand_of_wellFormed hw hc, ← byteAt_encode_zero i]
  exact s.accept_launch_ok hfit

/-- A command the encoder refuses completes at once with the encoder's reason (R194). -/
theorem exec_refuses {i : Instr} {r : ValidationReason} (h : encodeCommand s.cfg i s.reqConfirm = .err r) :
    ∃ t, exec i s = .next t ∧ CompletedFrom s t (.validationError r) 0#2 := by
  refine ⟨_, exec_open hphase hlink i, ?_⟩
  rw [h]
  exact s.accept_complete_from rfl

/-- A command the encoder warns about completes at once with the warning (R128, R194). -/
theorem exec_warns {i : Instr} {m a c : Byte} (h : encodeCommand s.cfg i s.reqConfirm = .warn m a c) :
    ∃ t, exec i s = .next t ∧ CompletedFrom s t (.destructiveWriteWarning m a c) 0#2 := by
  refine ⟨_, exec_open hphase hlink i, ?_⟩
  rw [h]
  exact s.accept_complete_from rfl

theorem execRead_refuses {m a c : Byte} {r : ValidationReason} (h : checkRange s.cfg m a c = some r) :
    ∃ t, exec (.read m a c) s = .next t ∧ CompletedFrom s t (.validationError r) 0#2 :=
  exec_refuses hphase hlink (encodeRead_of_fails h)

theorem execWrite_refuses {m a c : Byte} {pw d : Bytes} {r : ValidationReason}
    (h : checkWrite s.cfg m pw a c d = some r) :
    ∃ t, exec (.write m pw a c d) s = .next t ∧ CompletedFrom s t (.validationError r) 0#2 :=
  exec_refuses hphase hlink (encodeWrite_of_fails h _)

end

/-- Settles O19: a range under the ceiling makes ReadTag well formed, and its four bytes fit. -/
theorem readLaunches : Obligations.ReadLaunches := by
  intro s m a c hphase hlink hrange
  exact exec_launches hphase hlink ((wellFormed_read ..).mpr hrange) nofun (by simp [encode])

/-- Settles O20: the operands make WriteTag well formed, and the rest are the launch's own conditions. -/
theorem writeLaunches : Obligations.WriteLaunches := by
  intro s m a c pw d hphase hlink hrange hpw hd hfit hconfirm
  have wellFormed := (wellFormed_write s.cfg m a c pw d).mpr ⟨hrange, hpw, hd⟩
  have fits : (encode (.write m pw a c d)).length ≤ 253 := by
    rw [encode_write_length]
    omega
  have payload : encode (.write m pw a c d) = [0x82#8] ++ pw ++ [m, a, c] ++ d := by simp [encode]
  rw [← payload]
  exact exec_launches hphase hlink wellFormed (fun destructive => hconfirm ((isDestructive_iff ..).mp destructive)) fits

/-- Settles O21: past the checks the unconfirmed write is answered with the warning, which the engine completes with. -/
theorem unconfirmedDestructiveWriteWarns : Obligations.UnconfirmedDestructiveWriteWarns := by
  intro s m a c pw d hphase hlink hrange hpw hd htouches hconfirm
  have warned := (encodeWrite_unconfirmed_iff ((checkWrite_none_iff ..).mpr ⟨hrange, hpw, hd⟩)).mpr htouches
  rw [← hconfirm] at warned
  exact exec_warns hphase hlink warned

/-- Settles O22: the checks give the first failing one's reason, and the engine completes with it. -/
theorem failedCheckCompletesWithFirstReason : Obligations.FailedCheckCompletesWithFirstReason := by
  intro s m a c pw d hphase hlink
  obtain ⟨readRange, readCeiling, -⟩ := checkRange_eq s.cfg m a c
  obtain ⟨writeRange, writeCeiling, password, dataLength, -⟩ := checkWrite_eq s.cfg m a c pw d
  refine ⟨fun h => ⟨?_, ?_⟩, fun h hw => ⟨?_, ?_⟩, fun hw hpw => ?_, fun hw hpw hd => ?_, fun h => ?_⟩
  · exact execRead_refuses hphase hlink (readRange h)
  · exact execWrite_refuses hphase hlink (writeRange h)
  · exact execRead_refuses hphase hlink (readCeiling h hw)
  · exact execWrite_refuses hphase hlink (writeCeiling h hw)
  · exact execWrite_refuses hphase hlink (password hw hpw)
  · exact execWrite_refuses hphase hlink (dataLength hw hpw hd)
  · exact exec_refuses hphase hlink (encodeSetBuzzer_of_fails h)

/-- Settles O16: Reset and GetReaderId have no operand to check. -/
theorem resetAndGetIdLaunch : Obligations.ResetAndGetIdLaunch := fun _ hphase hlink =>
  ⟨exec_launches (i := .reset) hphase hlink rfl nofun (by simp [encode]),
    exec_launches (i := .getid) hphase hlink rfl nofun (by simp [encode])⟩

/-- Settles O17: every repeat byte makes RealtimeInventory well formed (R86). -/
theorem inventoryLaunches : Obligations.InventoryLaunches := fun _ r hphase hlink =>
  exec_launches (i := .inventory r) hphase hlink rfl nofun (by simp [encode])

/-- Settles O18: SetBuzzer is well formed for the modes in range. -/
theorem buzzerLaunches : Obligations.BuzzerLaunches := fun s m hphase hlink hmode =>
  exec_launches (i := .buzzer m) hphase hlink ((wellFormed_buzzer s.cfg m).mpr ((modeOk_iff m).mpr hmode)) nofun
    (by simp [encode])

end Sys2Proof.Machine

/-! ### `decode_body` (R154 to R167): short bodies, EPC lengths, checksum policy, warnings -/

namespace Sys2Proof.Machine

/-- A body without address, command and checksum is malformed before its checksum is looked at (R154, R174). -/
theorem decodeBody_of_short (cfg : Cfg) (op : Byte) {len : Byte} (body : Bytes) (h : len.toNat < 3) :
    decodeBody cfg op len body = malformed len none none body :=
  if_pos h

section

variable {len dl rl : Byte} {body : Bytes} {w : Warn}

/-- A pending ReadTag decodes by the read layout, where neither the checksum nor the error form comes before it. -/
theorem decodeBody_read {cfg : Cfg} (h : body.length = len.toNat) (h3 : 3 ≤ len.toNat) (h4 : len.toNat ≠ 4)
    (hc : ChecksumPasses cfg len body) :
    decodeBody cfg 0x81#8 len body = decodeReadBody len body (expectedWarnings 0x81#8 len body) := by
  rw [decodeBody_of_passes h h3 hc, decodeLayout_read cfg h4]

/-- A pending WriteTag decodes by the write layout, where neither the checksum nor the error form comes before it. -/
theorem decodeBody_write {cfg : Cfg} (h : body.length = len.toNat) (h3 : 3 ≤ len.toNat) (h4 : len.toNat ≠ 4)
    (hc : ChecksumPasses cfg len body) :
    decodeBody cfg 0x82#8 len body = decodeWriteBody cfg len body (expectedWarnings 0x82#8 len body) := by
  rw [decodeBody_of_passes h h3 hc, decodeLayout_write cfg h4]

/-- R158: no byte for DL. -/
theorem decodeReadBody_of_noDl (h : len.toNat < 6) : decodeReadBody len body w = malformed len none none body :=
  if_pos h

/-- R159: DL reaches past the body. -/
theorem decodeReadBody_of_longDl (h6 : 6 ≤ len.toNat) (hdl : byteAt body 4 = dl) (h : len.toNat < 9 + dl.toNat) :
    decodeReadBody len body w = malformed len (some dl) none body := by
  simp [decodeReadBody, h6.not_gt, hdl, h]

/-- R160: RL leaves a negative EPC length. -/
theorem decodeReadBody_of_negative (hdl : byteAt body 4 = dl) (hrl : byteAt body (7 + dl.toNat) = rl)
    (h9 : 9 + dl.toNat ≤ len.toNat) (he : (dl.toNat : Int) - rl.toNat - 2 < 0) :
    decodeReadBody len body w = malformed len (some dl) (some rl) body := by
  have h6 : ¬ len.toNat < 6 := by omega
  simp [decodeReadBody, h6, hdl, h9.not_gt, hrl, he]

/-- R163: no byte for DL. -/
theorem decodeWriteBody_of_noDl (cfg : Cfg) (h : len.toNat < 6) :
    decodeWriteBody cfg len body w = malformed len none none body :=
  if_pos h

/-- R163: DL reaches past the body. -/
theorem decodeWriteBody_of_longDl (cfg : Cfg) (h6 : 6 ≤ len.toNat) (hdl : byteAt body 4 = dl)
    (h : len.toNat < 10 + dl.toNat) :
    decodeWriteBody cfg len body w = malformed len (some dl) none body := by
  simp [decodeWriteBody, h6.not_gt, hdl, h]

/-- R164: DL leaves a negative EPC length. -/
theorem decodeWriteBody_of_negative (cfg : Cfg) (hdl : byteAt body 4 = dl) (h10 : 10 + dl.toNat ≤ len.toNat)
    (he : (dl.toNat : Int) - 2 < 0) : decodeWriteBody cfg len body w = malformed len (some dl) none body := by
  have h6 : ¬ len.toNat < 6 := by omega
  simp [decodeWriteBody, h6, hdl, h10.not_gt, he]

end

/-- Settles O37: each layout's own length checks, in their order. -/
theorem shortBodiesAreMalformed : Obligations.ShortBodiesAreMalformed := by
  intro cfg op len body h
  refine ⟨decodeBody_of_short cfg op body, fun h3 h4 h6 hc hop => ?_, fun h6 hd hc => ?_, fun h6 hd hc => ?_⟩
  · rcases hop with rfl | rfl
    · rw [decodeBody_read h h3 h4 hc, decodeReadBody_of_noDl h6, malformed]
    · rw [decodeBody_write h h3 h4 hc, decodeWriteBody_of_noDl cfg h6, malformed]
  · rw [decodeBody_read h (by omega) (by omega) hc]
    exact decodeReadBody_of_longDl h6 rfl hd
  · rw [decodeBody_write h (by omega) (by omega) hc]
    exact decodeWriteBody_of_longDl cfg h6 rfl hd

/-- The EPC span of a ReadResult has E bytes and its data span the DL - E - 2 that are left (R161). -/
theorem readResultOf_lengths {body : Bytes} {len dl e : Nat} (he : e + 2 ≤ dl) (hd : 6 + dl < body.length) (w : Warn) :
    ∃ fields, readResultOf body len dl e w = .readResult fields ∧
      fields.epc.length = e ∧ e + fields.data.length + 2 = dl := by
  refine ⟨_, rfl, ?_, ?_⟩
  · rw [slice_length _ _ _ (by omega)]; omega
  · rw [slice_length _ _ _ hd]; omega

/-- The EPC span of a WriteResult has E bytes (R165). -/
theorem writeResultOf_length (cfg : Cfg) {body : Bytes} {e : Nat} (he : 6 + e < body.length) (len dl : Nat) (w : Warn) :
    ∃ fields, writeResultOf cfg body len dl e w = .writeResult fields ∧ fields.epc.length = e := by
  refine ⟨_, rfl, ?_⟩
  rw [slice_length _ _ _ he]
  omega

/-- Settles O38: a negative E is malformed, and a nonnegative one is the length of the EPC span. -/
theorem readEpcLengthOnIntegers : Obligations.ReadEpcLengthOnIntegers := by
  intro cfg len dl rl body h hc h6 hdl h9 hrl
  replace hdl := byteAt_eq_of_getElem? hdl
  replace hrl := byteAt_eq_of_getElem? hrl
  rw [decodeBody_read h (by omega) (by omega) hc]
  refine ⟨decodeReadBody_of_negative hdl hrl h9, fun he => ?_⟩
  obtain ⟨e, hsum⟩ : ∃ e, e + rl.toNat + 2 = dl.toNat := ⟨dl.toNat - rl.toNat - 2, by omega⟩
  obtain ⟨fields, hf, hepc, hdata⟩ := readResultOf_lengths (body := body) (len := len.toNat) (e := e)
    (dl := dl.toNat) (by omega) (by omega) (expectedWarnings 0x81#8 len body)
  refine ⟨fields, (decodeReadBody_of_lengths hdl hrl h9 hsum _).trans hf, by omega, by omega, ?_⟩
  rintro rfl rfl
  simp only [BitVec.toNat_ofNat] at hsum hdata
  omega

/-- Settles O39: a negative E is malformed, and a nonnegative one is the length of the EPC span. -/
theorem writeEpcLengthOnIntegers : Obligations.WriteEpcLengthOnIntegers := by
  intro cfg len dl body h hc h6 hdl h10
  replace hdl := byteAt_eq_of_getElem? hdl
  rw [decodeBody_write h (by omega) (by omega) hc]
  refine ⟨decodeWriteBody_of_negative cfg hdl h10, by bv_omega, fun he => ?_⟩
  obtain ⟨e, hsum⟩ : ∃ e, e + 2 = dl.toNat := ⟨dl.toNat - 2, by omega⟩
  obtain ⟨fields, hf, hepc⟩ := writeResultOf_length cfg (body := body) (e := e) (by omega) len.toNat dl.toNat
    (expectedWarnings 0x82#8 len body)
  exact ⟨fields, (decodeWriteBody_of_lengths cfg hdl h10 hsum _).trans hf, by omega⟩

/-- Under Reject, a body that does not verify is not decoded any further (R155). -/
theorem decodeBody_of_rejected {cfg : Cfg} {len : Byte} {body : Bytes} (op : Byte) (h : body.length = len.toNat)
    (h3 : 3 ≤ len.toNat) (hp : cfg.checksumPolicy = .reject)
    (hf : checksum (0xA0#8 :: len :: body.dropLast) ≠ body.getLastD 0#8) :
    decodeBody cfg op len body =
      .protocolError (.checksumMismatch (checksum (0xA0#8 :: len :: body.dropLast)) (body.getLastD 0#8)) := by
  rw [decodeBody, if_neg h3.not_gt, if_pos (by simp [(checksumFails_iff h).mpr hf, hp]), expectedChecksum_eq h,
    receivedChecksum_eq h]

theorem decodeLayout_ne_checksumMismatch (cfg : Cfg) (op len : Byte) (body : Bytes) (w : Warn) (e r : Byte) :
    decodeLayout cfg op len body w ≠ .protocolError (.checksumMismatch e r) := by
  rcases decodeLayout_cases cfg op len body w with ⟨-, g⟩ | ⟨_, _, -, g⟩ | ⟨_, -, -, g⟩ | ⟨_, -, -, g⟩ | ⟨-, -, g⟩ <;>
    rw [g] <;> nofun

/-- The warning set of a decoded result is the one the layout was given. -/
theorem decodeLayout_warnings {cfg : Cfg} {op len : Byte} {body : Bytes} {w v : Warn}
    (h : (decodeLayout cfg op len body w).warnings = some v) : v = w := by
  rcases decodeLayout_cases cfg op len body w with ⟨-, g⟩ | ⟨_, _, -, g⟩ | ⟨_, -, rfl, g⟩ | ⟨_, -, rfl, g⟩ | ⟨-, -, g⟩ <;>
    rw [g] at h <;> cases h <;> rfl

/-- The warning set of a decoded result is the one R155 and R167 say, whatever the policy. -/
theorem decodeBody_warnings {cfg : Cfg} {op len : Byte} {body : Bytes} {w : Warn} (h : body.length = len.toNat)
    (hw : (decodeBody cfg op len body).warnings = some w) : w = expectedWarnings op len body := by
  unfold decodeBody at hw
  split_ifs at hw
  · cases hw
  · cases hw
  · rw [decodeLayout_warnings hw, responseWarnings_eq op h]

/-- A warning set says by bit 0 whether `p` fails and by bit 1 whether `q` does (R27). -/
theorem warn_bits (p q : Prop) [Decidable p] [Decidable q] :
    (((if p then 0#2 else 1#2) ||| (if q then 0#2 else 2#2)).getLsbD 0 = true ↔ ¬ p) ∧
    (((if p then 0#2 else 1#2) ||| (if q then 0#2 else 2#2)).getLsbD 1 = true ↔ ¬ q) := by
  by_cases hp : p <;> by_cases hq : q <;> simp [hp, hq]

/-- W_CHECKSUM is bit 0 and W_CMD_ECHO is bit 1 (R27, R155, R167). -/
theorem expectedWarnings_bits (op len : Byte) (body : Bytes) :
    ((expectedWarnings op len body).getLsbD 0 = true ↔ checksum (0xA0#8 :: len :: body.dropLast) ≠ body.getLastD 0#8) ∧
    ((expectedWarnings op len body).getLsbD 1 = true ↔ body.getD 1 0#8 ≠ op) :=
  warn_bits _ _

/-- The received frame verifies when the body's last byte is the checksum of all before it (R104, R155). -/
theorem verifyFrame_response {body : Bytes} (len : Byte) (h : body ≠ []) :
    verifyFrame (0xA0#8 :: len :: body) = true ↔ checksum (0xA0#8 :: len :: body.dropLast) = body.getLastD 0#8 := by
  obtain ⟨front, last, rfl⟩ := List.eq_nil_or_concat' body |>.resolve_left h
  rw [List.dropLast_concat, List.getLastD_concat]
  exact verifyFrame_append_singleton (0xA0#8 :: len :: front) last

/-- Settles O45: the policy decides between the mismatch and the layouts, which hand on the warnings they are given. -/
theorem checksumPolicyAndWarnings : Obligations.ChecksumPolicyAndWarnings := by
  intro cfg op len body h h3
  refine ⟨decodeBody_of_rejected op h h3, fun hp e r => ?_, fun w hw => ?_⟩
  · rw [decodeBody_of_passes h h3 (.inr hp)]
    exact decodeLayout_ne_checksumMismatch _ _ _ _ _ _ _
  · obtain rfl := decodeBody_warnings h hw
    obtain ⟨sumBit, echoBit⟩ := expectedWarnings_bits op len body
    have nonempty : body ≠ [] := List.ne_nil_of_length_pos (by omega)
    have second : 1 < body.length := by omega
    constructor
    · rw [sumBit, ← Bool.not_eq_true, verifyFrame_response len nonempty]
    · rw [echoBit, List.getD_eq_getElem _ _ second, List.getElem?_eq_getElem second, Ne, Ne, Option.some.injEq]

end Sys2Proof.Machine

/-! ### Byte-read steps (R151 to R153): what a byte does in each receive phase -/

namespace Sys2Proof.Machine

/-- A byte-read step whose event is a byte takes it off the stream, records the read, and gives the byte to the phase
(R196, R200). -/
theorem step_byteEvent {s : State} {b : Byte} {later : List RxEvent} (h : s.phase.receives = true)
    (hr : s.resetAsserted = false) (he : s.rxStream = .byte b :: later) :
    step s = .next (({ s with
      resetInput := s.resetInput.tail, rxStream := later,
      calls := s.calls ++ [.readCall 1 s.cfg.byteTimeout] } : State).byteEvent b) :=
  step_receive h hr he

section

variable {s : State} {b : Byte}

theorem byteEvent_header (hp : s.phase = .rxHeader) (hb : b = 0xA0#8) : s.byteEvent b = { s with phase := .rxLength } := by
  simp [State.byteEvent, hp, State.headerByte, hb, Config.header]

theorem byteEvent_badHeader (hp : s.phase = .rxHeader) (hb : b ≠ 0xA0#8) :
    CompletedFrom s (s.byteEvent b) (.protocolError (.badHeader b)) s.warn := by
  have completes : s.byteEvent b = s.complete (.protocolError (.badHeader b)) := by
    simp [State.byteEvent, hp, State.headerByte, hb, Config.header]
  rw [completes]
  exact s.complete_from _

theorem byteEvent_length (hp : s.phase = .rxLength) (hb : b ≠ 0#8) :
    s.byteEvent b = { s with rxLen := b, rxBody := [], phase := .rxBody } := by
  simp [State.byteEvent, hp, State.lengthByte, hb, State.startBody]

theorem byteEvent_zeroLength (hp : s.phase = .rxLength) (hb : b = 0#8) :
    CompletedFrom s (s.byteEvent b) (decodeBody s.cfg s.pendOp 0#8 []) s.warn := by
  have completes : s.byteEvent b = (s.startBody 0#8).finish := by
    simp [State.byteEvent, hp, State.lengthByte, hb]
  rw [completes]
  exact (s.startBody 0#8).complete_from _

theorem byteEvent_bodyByte (hp : s.phase = .rxBody) (hl : s.rxBody.length + 1 ≠ s.rxLen.toNat) :
    s.byteEvent b = { s with rxBody := s.rxBody ++ [b] } := by
  simp [State.byteEvent, hp, State.bodyByte, hl, State.appendBody]

theorem byteEvent_lastBodyByte (hp : s.phase = .rxBody) (hl : s.rxBody.length + 1 = s.rxLen.toNat) :
    CompletedFrom s (s.byteEvent b) (decodeBody s.cfg s.pendOp s.rxLen (s.rxBody ++ [b]))
      ((decodeBody s.cfg s.pendOp s.rxLen (s.rxBody ++ [b])).warnings.getD s.warn) := by
  have completes : s.byteEvent b = (s.appendBody b).finish := by
    simp [State.byteEvent, hp, State.bodyByte, hl]
  rw [completes]
  exact (s.appendBody b).complete_from _

end

/-- Settles O31: the byte is the header or it is not. -/
theorem headerByteIsCheckedFirst : Obligations.HeaderByteIsCheckedFirst := fun _ _ _ hp hr hx =>
  ⟨_, step_byteEvent (by rw [hp]; rfl) hr hx, fun hb => byteEvent_header hp hb, fun hb => byteEvent_badHeader hp hb⟩

/-- Settles O32: an empty body is decoded at once, and any other is opened. -/
theorem lengthByteOpensTheBody : Obligations.LengthByteOpensTheBody := fun _ _ _ hp hr hx =>
  ⟨_, step_byteEvent (by rw [hp]; rfl) hr hx, fun hb => byteEvent_length hp hb,
    fun hb => ⟨decodeBody_of_short _ _ [] (by decide), byteEvent_zeroLength hp hb⟩⟩

/-- Settles O33: the byte is the L-th or it is not. -/
theorem bodyIsDecodedWhenComplete : Obligations.BodyIsDecodedWhenComplete := fun _ _ _ hp hr hx =>
  ⟨_, step_byteEvent (by rw [hp]; rfl) hr hx, fun hl => byteEvent_bodyByte hp hl,
    fun hl => byteEvent_lastBodyByte hp hl⟩

end Sys2Proof.Machine

/-! ### The Error Catalog (R170 to R173) -/

namespace Sys2Proof.Machine

theorem catalog_of_mapped {cfg : Cfg} {code : Byte} {name : NamedCategory}
    (h : cfg.errorCatalog.entries.lookup code = some name) : catalog cfg code = .named name := by
  rw [catalog, h]

theorem catalog_of_unmapped {cfg : Cfg} {code : Byte} (h : cfg.errorCatalog.entries.lookup code = none) :
    catalog cfg code = .unhandled code := by
  rw [catalog, h]

/-- The two digits of a byte tell which byte it is (R107). -/
theorem renderByte_inj {a b : Byte} (h : renderByte a = renderByte b) : a = b := by
  have ha := a.isLt
  have hb := b.isLt
  simp only [renderByte, List.cons.injEq, and_true] at h
  have high := hexDigit_inj (by omega) (by omega) h.1
  have low := hexDigit_inj (by omega) (by omega) h.2
  apply BitVec.eq_of_toNat_eq
  omega

/-- Settles O46: the two constraints stand in the catalog's type, and the rendering keeps the code's two digits. -/
theorem catalogFallsBackToUnhandled : Obligations.CatalogFallsBackToUnhandled := by
  refine ⟨fun cfg code => ⟨fun _ => catalog_of_mapped, catalog_of_unmapped, catalog_of_mapped cfg.errorCatalog.noTag,
    catalog_of_unmapped cfg.errorCatalog.unmapped⟩, fun a b h => ?_, by decide⟩
  exact renderByte_inj (List.append_cancel_left (List.append_cancel_right h))

end Sys2Proof.Machine

/-! ### The idle engine's requests and the write (R190 to R195): each port operation taken by the step that meets it -/

namespace Sys2Proof.Machine

section

variable {s : State} {rest : List Request} (hphase : s.phase = .idle) (hreset : s.resetAsserted = false)

include hphase hreset

/-- In Idle, outside engine reset, a step is the host's next request (R190). -/
theorem step_idle : step s = idleStep s.sampleReset := by
  rw [step_running s hreset]
  simp only [engineStep, State.sampleReset_phase, hphase]

/-- An EXCHANGE first at the request port is taken, and its command run (R193). -/
theorem step_exchange {i : Instr} {broadcast confirm : Bool}
    (hreq : s.hostRequests = .exchange i broadcast confirm :: rest) :
    step s = exec i (s.sampleReset.present rest broadcast confirm) := by
  rw [step_idle hphase hreset]
  simp only [idleStep, State.sampleReset_hostRequests, hreq]

/-- An OPEN first at the request port is taken with the transport's answer to it (R191). -/
theorem step_openLink {port : Text} {baud limit : Nat} {answer : OpenAnswer} {later : List OpenAnswer}
    (hreq : s.hostRequests = .openLink port baud limit :: rest) (hans : s.openAnswers = answer :: later) :
    step s = .next (((s.sampleReset.takeRequest rest).takeOpenAnswer later).openLink port baud limit answer) := by
  rw [step_idle hphase hreset]
  simp only [idleStep, State.sampleReset_hostRequests, hreq, State.sampleReset_openAnswers, hans]

/-- A CLOSE first at the request port is taken (R192). -/
theorem step_closeLink (hreq : s.hostRequests = .closeLink :: rest) :
    step s = .next (s.sampleReset.takeRequest rest).closeLink := by
  rw [step_idle hphase hreset]
  simp only [idleStep, State.sampleReset_hostRequests, hreq]

end

/-- What OPEN leads to, by the transport's answer: the call recorded, the link open or as it was, and completion (R191). -/
theorem State.openLink_from (s : State) (port : Text) (baud limit : Nat) (answer : OpenAnswer) :
    CompletedFrom
      { s with
        calls := s.calls ++ [.openCall port baud limit]
        link := if answer = .openOk then .opened else s.link }
      (s.openLink port baud limit answer)
      (if answer = .openOk then .done else .transportError (.disconnected .opening)) 0#2 := by
  cases answer with
  | openOk => exact State.accept_complete_from _ rfl
  | openFail => exact State.accept_complete_from _ rfl

/-- What CLOSE leads to, whatever the link was (R192). -/
theorem State.closeLink_from (s : State) :
    CompletedFrom { s with calls := s.calls ++ [.closeCall], link := .closed } s.closeLink .done 0#2 :=
  State.accept_complete_from _ rfl

/-- A failed write completes with Disconnected (R195). -/
theorem State.transmit_fail_from (s : State) :
    CompletedFrom { s with calls := s.calls ++ [.writeCall s.pendFrame] } (s.transmit .writeFail)
      (.transportError (.disconnected .transmitting)) s.warn :=
  State.complete_from _ _

/-- Settles O24: on a closed link the exchange is accepted and completed without a look at the encoder. -/
theorem closedLinkGivesNotOpen : Obligations.ClosedLinkGivesNotOpen := by
  intro i s hphase hlink
  refine ⟨_, exec_eq i s, ?_⟩
  rw [s.exchange_closed _ hphase hlink]
  exact s.accept_complete_from rfl

/-- Settles O27: the step takes the EXCHANGE it finds, and `withFetchWord` puts one there. -/
theorem stepRunsTheOfferedCommand : Obligations.StepRunsTheOfferedCommand := by
  refine ⟨fun _ _ _ _ _ hphase hreset hreq => step_exchange hphase hreset hreq, fun s nbits w i hword => ?_⟩
  have offered : s.withFetchWord nbits w = s.offering i := by
    simp only [State.withFetchWord, State.offeringWord, hword]
  rw [offered]
  exact step_exchange rfl rfl rfl

/-- Settles O28: the step takes the request and the answer, and OPEN does the rest. -/
theorem openCompletesByTransportAnswer : Obligations.OpenCompletesByTransportAnswer :=
  fun _ _ _ _ _ _ _ hphase hreset hreq hans =>
    ⟨_, step_openLink hphase hreset hreq hans, State.openLink_from ..⟩

/-- Settles O29: the step takes the request, and CLOSE does the rest. -/
theorem closeCompletesWithDone : Obligations.CloseCompletesWithDone := fun _ _ hphase hreset hreq =>
  ⟨_, step_closeLink hphase hreset hreq, State.closeLink_from _⟩

/-- Settles O30: the step takes the answer, by which the write goes on or completes. -/
theorem transmitHandsOverTheWholeFrame : Obligations.TransmitHandsOverTheWholeFrame := by
  intro s answer later hphase hreset hans
  refine ⟨_, step_transmit hphase hreset hans, ?_, ?_⟩
  · rintro rfl
    rfl
  · rintro rfl
    exact State.transmit_fail_from _

end Sys2Proof.Machine

/-! ### The engine's inputs (R58, R196, R205): what a busy engine and a step outside the receive phases leave of them -/

namespace Sys2Proof.Machine

theorem State.transmit_inputs (s : State) (a : WriteAnswer) :
    (s.transmit a).hostRequests = s.hostRequests ∧ (s.transmit a).openAnswers = s.openAnswers ∧
    (s.transmit a).resetInput = s.resetInput ∧ (s.transmit a).rxStream = s.rxStream := by
  cases a <;> exact ⟨rfl, rfl, rfl, rfl⟩

/-- Beside what `State.receive_frame` says, a receive event leaves the answers of `open` and the reset input alone. -/
theorem State.receive_inputs (s : State) (e : RxEvent) (h : s.phase.receives = true) :
    (s.receive e).openAnswers = s.openAnswers ∧ (s.receive e).resetInput = s.resetInput := by
  rcases s.receive_cases e h with ⟨-, g⟩ | ⟨-, g⟩ | ⟨-, -, g⟩ | ⟨b, -, -, -, g⟩ | ⟨-, -, g⟩ | ⟨b, -, -, -, g⟩ |
    ⟨b, -, -, -, g⟩ | ⟨b, -, -, -, g⟩ <;> rw [g] <;> exact ⟨rfl, rfl⟩

/-- A step of the engine proper outside Idle takes no request and no answer of `open` (R205). -/
theorem engineStep_busy {s t : State} (hbusy : s.phase ≠ .idle) (h : engineStep s = .next t) :
    t.hostRequests = s.hostRequests ∧ t.openAnswers = s.openAnswers := by
  rcases engineStep_inv h with ⟨-, rfl⟩ | ⟨p, b, l, rest, a, later, hp, -⟩ | ⟨rest, hp, -⟩ | ⟨i, b, c, rest, hp, -⟩ |
    ⟨a, later, -, -, rfl⟩ | ⟨e, later, hp, -, rfl⟩
  · exact ⟨rfl, rfl⟩
  · exact absurd hp hbusy
  · exact absurd hp hbusy
  · exact absurd hp hbusy
  · obtain ⟨requests, answers, -⟩ := (s.takeWriteAnswer later).transmit_inputs a
    exact ⟨requests, answers⟩
  · obtain ⟨-, -, -, -, requests⟩ := (s.takeEvent later).receive_frame e hp
    obtain ⟨answers, -⟩ := (s.takeEvent later).receive_inputs e hp
    exact ⟨requests, answers⟩

/-- Settles O25: the offered command waits, and neither engine reset nor a busy engine takes anything from the host. -/
theorem busyEngineMakesCommandsWait : Obligations.BusyEngineMakesCommandsWait := by
  intro i s hbusy
  refine ⟨by rw [exec_eq, s.exchange_busy _ hbusy], fun t h => ?_⟩
  rcases step_inv h with ⟨-, rfl⟩ | ⟨-, g⟩
  · exact ⟨rfl, rfl⟩
  · exact engineStep_busy (s := s.sampleReset) hbusy g

theorem receives_of_idle {s : State} (h : s.phase = .idle) : s.phase.receives = false := by rw [h]; rfl

theorem receives_of_transmit {s : State} (h : s.phase = .transmit) : s.phase.receives = false := by rw [h]; rfl

/-- A starved engine in a receive phase has no event to take (I17). -/
theorem State.Starved.rxStream {s : State} (h : s.Starved) (hp : s.phase.receives = true) : s.rxStream = [] := by
  rcases h with ⟨g, -⟩ | ⟨g, -⟩ | ⟨-, empty⟩
  · simp [receives_of_idle g] at hp
  · simp [receives_of_transmit g] at hp
  · exact empty

/-- A step of the engine proper takes the next event in a receive phase, and no event in another (R196). -/
theorem engineStep_rxStream {s t : State} (h : engineStep s = .next t) :
    t.rxStream = if s.phase.receives then s.rxStream.tail else s.rxStream := by
  rcases engineStep_inv h with ⟨starved, rfl⟩ | ⟨p, b, l, rest, a, later, hp, -, -, rfl⟩ | ⟨rest, hp, -, rfl⟩ |
    ⟨i, b, c, rest, hp, -, g⟩ | ⟨a, later, hp, -, rfl⟩ | ⟨e, later, hp, hx, rfl⟩
  · split
    · next hp => rw [starved.rxStream hp, List.tail_nil]
    · rfl
  · rw [receives_of_idle hp]
    cases a <;> rfl
  · rw [receives_of_idle hp]
    rfl
  · rw [receives_of_idle hp]
    obtain ⟨-, kept, -⟩ := offeringACommandDoesNoIO i _ t g
    exact kept
  · rw [receives_of_transmit hp]
    obtain ⟨-, -, -, kept⟩ := (s.takeWriteAnswer later).transmit_inputs a
    exact kept
  · rw [hp, hx]
    obtain ⟨kept, -⟩ := (s.takeEvent later).receive_frame e hp
    exact kept

/-- Settles O50: engine reset leaves the stream, and the engine proper takes what `engineStep_rxStream` says. -/
theorem onlyReceivePhasesConsumeEvents : Obligations.OnlyReceivePhasesConsumeEvents := by
  intro s t h
  rcases step_inv h with ⟨hr, rfl⟩ | ⟨hr, g⟩
  · simp [hr]
  · rw [hr, Bool.not_false, Bool.and_true]
    exact engineStep_rxStream (s := s.sampleReset) g

/-- The bytes of this response consumed so far, phase by phase (R197). -/
theorem State.received_by_phase (s : State) :
    (s.phase = .rxHeader → s.received = 0) ∧ (s.phase = .rxLength → s.received = 1) ∧
    (s.phase = .rxBody → s.received = 2 + s.rxBody.length) := by
  refine ⟨fun h => ?_, fun h => ?_, fun h => ?_⟩ <;> simp [State.received, h]

/-- Settles O34: the event is taken, and the exchange completes with the phase and the count of `State.received`. -/
theorem lostByteCompletesWithProgress : Obligations.LostByteCompletesWithProgress := by
  intro s event later hp hr hx hlost
  obtain ⟨header, length, body⟩ := s.received_by_phase
  refine ⟨_, s.received, step_receive hp hr hx, header, length, body, ?_⟩
  rcases hlost with rfl | rfl <;> exact State.complete_from _ _

end Sys2Proof.Machine

/-! ### The table of possible results (R201) -/

namespace Sys2Proof.Machine

/-- Every layout's outcome is in the table for the command whose opcode is pending (R156 to R166). -/
theorem possibleResult_decodeLayout (cfg : Cfg) (i : Instr) (len : Byte) (body : Bytes) (w : Warn) :
    possibleResult i (decodeLayout cfg i.opcode len body w) = true := by
  rcases decodeLayout_cases cfg i.opcode len body w with ⟨-, g⟩ | ⟨_, _, -, g⟩ | ⟨_, op, -, g⟩ | ⟨_, op, -, g⟩ |
    ⟨notRead, notWrite, g⟩ <;> rw [g]
  · rfl
  · rfl
  · exact beq_iff_eq.mpr op
  · exact beq_iff_eq.mpr op
  · simp [possibleResult, Config.opRead, Config.opWrite, notRead, notWrite]

theorem possibleResult_decodeBody (cfg : Cfg) (i : Instr) (len : Byte) (body : Bytes) :
    possibleResult i (decodeBody cfg i.opcode len body) = true := by
  unfold decodeBody
  split_ifs
  · rfl
  · rfl
  · exact possibleResult_decodeLayout ..

/-- The encoder refuses a command only for a reason the table gives that command (R126, R136). -/
theorem possibleReason_of_encodeCommand_err {cfg : Cfg} {i : Instr} {confirm : Bool} {r : ValidationReason}
    (h : encodeCommand cfg i confirm = .err r) : possibleReason i r = true := by
  cases i with
  | reset | inventory | getid => cases h
  | buzzer m =>
    simp only [encodeCommand, encodeSetBuzzer] at h
    split at h <;> cases h
    rfl
  | read m a c =>
    simp only [encodeCommand, encodeRead] at h
    split at h <;> cases h
    next hc => rcases checkRange_reason hc with rfl | rfl <;> rfl
  | write m pw a c d =>
    simp only [encodeCommand, encodeWrite] at h
    split at h
    · cases h
      next hc => rcases checkWrite_reason hc with rfl | rfl | rfl | rfl <;> rfl
    · split at h <;> cases h

/-- Only a WriteTag is warned about (R127, R128). -/
theorem opcode_of_encodeCommand_warn {cfg : Cfg} {i : Instr} {confirm : Bool} {m a c : Byte}
    (h : encodeCommand cfg i confirm = .warn m a c) : i.opcode = Config.opWrite := by
  cases i with
  | write => rfl
  | reset | inventory | getid => cases h
  | buzzer mode =>
    simp only [encodeCommand, encodeSetBuzzer] at h
    split at h <;> cases h
  | read => exact absurd h (encodeRead_ne_warn _ _ _ _ _ _ _)

/-- Only a WriteTag's payload can pass what a frame holds (R138). -/
theorem possibleReason_frameTooLong {i : Instr} (h : 253 < (encode i).length) : possibleReason i .frameTooLong = true := by
  cases i with
  | write => rfl
  | reset | read | inventory | buzzer | getid => simp [encode] at h

/-- An accepted EXCHANGE on an open link that completes at once has a result of the table (R194, R201). -/
theorem possibleResult_accept_launch {s : State} {cfg : Cfg} {i : Instr} {confirm : Bool}
    (h : (s.accept.launch (encodeCommand cfg i confirm)).phase = .idle) :
    possibleResult i (s.accept.launch (encodeCommand cfg i confirm)).result = true := by
  rcases s.accept.launch_cases (encodeCommand cfg i confirm) with ⟨r, e, refused | ⟨p, ho, hp, rfl⟩⟩ | ⟨m, a, c, ho, e⟩ |
    ⟨p, -, -, e⟩ <;> rw [e] at h ⊢
  · exact possibleReason_of_encodeCommand_err refused
  · obtain ⟨-, rfl⟩ := encodeCommand_ok ho
    exact possibleReason_frameTooLong hp
  · exact beq_iff_eq.mpr (opcode_of_encodeCommand_warn ho)
  · cases h

/-- Settles O48: the decoder's outcomes, NotOpen, and what an accepted command completes with at once. -/
theorem resultsStayInTheTable : Obligations.ResultsStayInTheTable := by
  refine ⟨possibleResult_decodeBody, fun i s t hp h ht => ?_⟩
  rcases exec_inv h with ⟨busy, -⟩ | ⟨-, -, rfl⟩ | ⟨-, -, rfl⟩
  · exact absurd hp busy
  · rfl
  · exact possibleResult_accept_launch ht

end Sys2Proof.Machine

/-! ### The bound on an exchange (R202): every receive event completes it or leaves fewer bytes wanted -/

namespace Sys2Proof.Machine

/-- How many more bytes the exchange can take: before the length byte is known, as many as the longest body has. -/
def State.bytesWanted (s : State) : Nat :=
  match s.phase with
  | .rxHeader => 2 + Config.maxBody
  | .rxLength => 1 + Config.maxBody
  | .rxBody => s.rxLen.toNat - s.rxBody.length
  | _ => 0

section

variable {s : State}

theorem bytesWanted_rxHeader (h : s.phase = .rxHeader) : s.bytesWanted = 257 := by
  simp [State.bytesWanted, h, Config.maxBody]

theorem bytesWanted_rxLength (h : s.phase = .rxLength) : s.bytesWanted = 256 := by
  simp [State.bytesWanted, h, Config.maxBody]

theorem bytesWanted_rxBody (h : s.phase = .rxBody) : s.bytesWanted = s.rxLen.toNat - s.rxBody.length := by
  simp [State.bytesWanted, h]

/-- A receive phase wants a byte: an open body lacks one (R153). -/
theorem bytesWanted_pos (hi : s.Inv) (hp : s.phase.receives = true) : 0 < s.bytesWanted := by
  cases h : s.phase with
  | idle => simp [receives_of_idle h] at hp
  | transmit => simp [receives_of_transmit h] at hp
  | rxHeader => simp [bytesWanted_rxHeader h]
  | rxLength => simp [bytesWanted_rxLength h]
  | rxBody =>
    have := hi.body_open h
    rw [bytesWanted_rxBody h]
    omega

/-- A receive event completes the exchange, or leaves it in a receive phase with fewer bytes wanted. -/
theorem receive_progress (hi : s.Inv) (hp : s.phase.receives = true) (e : RxEvent) :
    ((s.receive e).phase = .idle ∧ (s.receive e).resultValid = true) ∨
    ((s.receive e).phase.receives = true ∧ (s.receive e).bytesWanted < s.bytesWanted) := by
  rcases s.receive_cases e hp with ⟨-, g⟩ | ⟨-, g⟩ | ⟨hh, -, g⟩ | ⟨b, -, -, -, g⟩ | ⟨-, -, g⟩ | ⟨b, hl, -, -, g⟩ |
    ⟨b, -, -, -, g⟩ | ⟨b, hb, -, -, g⟩ <;> rw [g]
  · exact .inl ⟨rfl, rfl⟩
  · exact .inl ⟨rfl, rfl⟩
  · refine .inr ⟨rfl, ?_⟩
    rw [bytesWanted_rxLength rfl, bytesWanted_rxHeader hh]
    omega
  · exact .inl ⟨rfl, rfl⟩
  · exact .inl ⟨rfl, rfl⟩
  · refine .inr ⟨rfl, ?_⟩
    have := b.isLt
    rw [bytesWanted_rxBody rfl, bytesWanted_rxLength hl]
    simp only [State.startBody_rxLen, State.startBody_rxBody, List.length_nil]
    omega
  · exact .inl ⟨rfl, rfl⟩
  · refine .inr ⟨hp, ?_⟩
    have lacking := hi.body_open hb
    rw [bytesWanted_rxBody (s := (s.call _).appendBody b) hb, bytesWanted_rxBody hb]
    simp only [State.appendBody_rxLen, State.appendBody_rxBody, State.call_rxLen, State.call_rxBody, List.length_append,
      List.length_singleton]
    omega

end

/-- A byte-read step takes one event, and completes the exchange or goes on with fewer bytes wanted (R196, R202). -/
theorem step_progress {s : State} (hi : s.Inv) (hp : s.phase.receives = true) (hr : s.resetAsserted = false)
    (hx : 0 < s.rxStream.length) :
    ∃ t, step s = .next t ∧ t.resetInput = s.resetInput.tail ∧ s.rxStream.length = t.rxStream.length + 1 ∧
      ((t.phase = .idle ∧ t.resultValid = true) ∨ (t.phase.receives = true ∧ t.bytesWanted < s.bytesWanted)) := by
  obtain ⟨e, later, hx⟩ := List.exists_cons_of_length_pos hx
  obtain ⟨hstream, -⟩ := (s.sampleReset.takeEvent later).receive_frame e hp
  obtain ⟨-, hresets⟩ := (s.sampleReset.takeEvent later).receive_inputs e hp
  refine ⟨_, step_receive hp hr hx, hresets, ?_, receive_progress (s := s.sampleReset.takeEvent later) hi.ports hp e⟩
  rw [hx, hstream]
  rfl

/-- From a receive phase, an environment that answers every read completes the exchange within as many reads as bytes are
wanted, and each read takes one event. -/
theorem run_receives_completes {m : Nat} {s : State} (hi : s.Inv) (hp : s.phase.receives = true)
    (hq : ∀ x ∈ s.resetInput, x = false) (hw : s.bytesWanted ≤ m) (hm : m ≤ s.rxStream.length) :
    ∃ n t, n ≤ m ∧ core.run n s = .next t ∧ t.phase = .idle ∧ t.resultValid = true ∧
      s.rxStream.length = t.rxStream.length + n := by
  induction m generalizing s with
  | zero =>
    have := bytesWanted_pos hi hp
    omega
  | succ m ih =>
    obtain ⟨quiet, hq'⟩ := resetAsserted_of_quiet hq
    obtain ⟨u, hs, hresets, htaken, ⟨hidle, hvalid⟩ | ⟨hp', hless⟩⟩ := step_progress hi hp quiet (by omega)
    · exact ⟨1, u, by omega, run_succ 0 hs, hidle, hvalid, htaken⟩
    · rw [← hresets] at hq'
      obtain ⟨n, t, hn, hrun, hidle, hvalid, hread⟩ :=
        ih (everyStepKeepsTheInvariant s u hi hs) hp' hq' (by omega) (by omega)
      exact ⟨n + 1, t, by omega, (run_succ n hs).trans hrun, hidle, hvalid, by omega⟩

/-- Settles O59: a failed write completes at once, and an accepted one leads to RxHeader, where 257 bytes are wanted. -/
theorem exchangeCompletesWithinBound : Obligations.ExchangeCompletesWithinBound := by
  intro s hi hp hq hw hx
  obtain ⟨a, later, hans⟩ := List.exists_cons_of_ne_nil hw
  obtain ⟨quiet, hq'⟩ := resetAsserted_of_quiet hq
  have hs := step_transmit hp quiet hans
  cases a with
  | writeFail => exact ⟨1, _, by omega, run_succ 0 hs, rfl, rfl, Nat.le_add_right _ _⟩
  | writeOk =>
    have hu := everyStepKeepsTheInvariant _ _ hi hs
    obtain ⟨n, t, hn, hrun, hidle, hvalid, hread⟩ :=
      run_receives_completes hu rfl hq' (bytesWanted_rxHeader rfl).le hx
    refine ⟨n + 1, t, by omega, (run_succ n hs).trans hrun, hidle, hvalid, ?_⟩
    have kept : s.rxStream.length = t.rxStream.length + n := hread
    omega

end Sys2Proof.Machine

/-! ### Every step has a next state (I16, I17): no fault exists, and every command has its meaning -/

namespace Sys2Proof.Machine

/-- Every command has a meaning in every state: the exchange of its encoder (R193). -/
theorem exec_hasNext (i : Instr) (s : State) : ∃ t, exec i s = .next t := ⟨_, exec_eq i s⟩

/-- The engine proper rests where its port is empty, and takes what is there otherwise. -/
theorem engineStep_hasNext (s : State) : ∃ t, engineStep s = .next t := by
  rcases engineStep_cases s with ⟨-, rests⟩ | ⟨_, _, _, _, _, _, -, -, -, opens⟩ | ⟨_, -, -, closes⟩ |
    ⟨i, b, c, rest, -, -, offers⟩ | ⟨_, _, -, -, transmits⟩ | ⟨_, _, -, -, receives⟩
  · exact ⟨_, rests⟩
  · exact ⟨_, opens⟩
  · exact ⟨_, closes⟩
  · rw [offers]
    exact exec_hasNext i (s.present rest b c)
  · exact ⟨_, transmits⟩
  · exact ⟨_, receives⟩

/-- Settles O49: a step is engine reset or a step of the engine proper, and both have a next state. -/
theorem everyStepHasANextState : Obligations.EveryStepHasANextState := by
  intro s
  cases hreset : s.resetAsserted with
  | true => exact ⟨_, step_reset s hreset⟩
  | false =>
    rw [step_running s hreset]
    exact engineStep_hasNext s.sampleReset

/-! ### The codes of result kinds and reasons (R211 to R214) -/

/-- Settles O47, table by table: kinds (R211), then the reasons of R212, R213 and R214. -/
theorem resultAndReasonCodes : Obligations.ResultAndReasonCodes := by
  refine ⟨?kinds, ?validation, ?protocol, ?transport⟩
  case kinds =>
    intro r
    cases r <;> rfl
  case validation => rfl
  case protocol => exact fun _ _ _ _ _ _ _ => ⟨rfl, rfl, rfl⟩
  case transport => exact fun _ _ _ => ⟨rfl, rfl, rfl⟩

end Sys2Proof.Machine

/-! ### The frames of the test vectors (95_test_vectors.md 2.3 and P6) -/

namespace Sys2Proof.Machine

/-- Settles O11: each written frame is what `build_frame` makes of its command's payload, so O9 reads the command back. -/
theorem specFramesDecode : Obligations.SpecFramesDecode := by
  have reads := decodeFrameInvertsBuild
  refine ⟨?reset, ?getid, ?inventory, ?buzzer, ?read, ?write⟩
  case reset => exact reads .reset false _ rfl rfl
  case getid => exact reads .getid true _ rfl rfl
  case inventory => exact reads (.inventory 1#8) false _ rfl rfl
  case buzzer => exact reads (.buzzer 2#8) false _ rfl rfl
  case read => exact reads (.read 2#8 10#8 2#8) false _ rfl rfl
  case write =>
    exact reads (.write 1#8 [0x11#8, 0x22#8, 0x33#8, 0x44#8] 2#8 2#8 [0xAA#8, 0xBB#8, 0xCC#8, 0xDD#8]) false _ rfl rfl

end Sys2Proof.Machine
